-- ==== Sys2Proof/Word.lean ====
section
/-! DEFINITION. The widths of the hardware's data: every data register and every memory cell is one byte,
`address` and the offset operand are 16 bits, the transaction word is 32 bits (00_scope R11, 30_encoding R91). -/
namespace Sys2Proof

/-- A data register, a memory cell or the data operand `D` (R11, R91). -/
abbrev Byte := BitVec 8

/-- The offset or index operand `A` of a transaction word; also the width of `address` (R11, R91). -/
abbrev Offset := BitVec 16

/-- A transaction word (R91). -/
abbrev Word := BitVec 32

end Sys2Proof
end

