-- ==== Sys2Proof/Config.lean ====
section
/-! DEFINITION. What is fixed for one machine: its identity, the board parameter, the parameters the spec leaves OPEN
(00_scope R2, R8 to R10, 92_eei_decisions) and the free values. Every opaque constant here has no body, so a claim
holds whatever its value is. The values of the per-board table (R9) and the default geometry (R211) are in
Machine/Board.lean. -/
namespace Sys2Proof

/-- The board variant (R8). -/
inductive Board where
  | bublbobl | bootleg | tokio | kyugo
deriving DecidableEq, Repr

/-- The compositor variant: S, the Bubble-Bobble-style one, or K, the Kyugo-style one (R18, R210). -/
inductive Variant where
  | s | k
deriving DecidableEq, Repr

/-- A rectangle of pixels with inclusive corners, the spec's (x0, x1, y0, y1) (R211). -/
structure Clip where
  x0 : Nat
  x1 : Nat
  y0 : Nat
  y1 : Nat
deriving DecidableEq, Repr

/-- The three graphics sets (R214): foreground tiles, sprites and objects, background tiles. -/
inductive GfxSet where
  | fg | spr | bg
deriving DecidableEq, Repr

/-- The constants of the compositor's geometry, arguments the model takes (R10, R211); `Geometry.standard` has the
defaults. What R211 derives, `VRAM_SIZE`, `TMP_W` and `TMP_H`, is derived in Machine/Board.lean. -/
structure Geometry where
  /-- `BG_COLS`. -/
  bgCols : Nat
  /-- `BG_ROWS`. -/
  bgRows : Nat
  /-- `BG_TILE`. -/
  bgTile : Nat
  /-- `FB_W`. -/
  fbW : Nat
  /-- `FB_H`. -/
  fbH : Nat
  /-- `CLIP`: the visible rectangle inside `fb`. -/
  clip : Clip
  /-- `OBJ_SIZE`. -/
  objSize : Nat
  /-- `FG_SIZE`. -/
  fgSize : Nat
  /-- `FG_STRIDE`. -/
  fgStride : Nat
  /-- `FG_VIS_COLS`. -/
  fgVisCols : Nat
  /-- `FG_TILE`. -/
  fgTile : Nat
  /-- `SPR_TILE`. -/
  sprTile : Nat
  /-- `OBJ_BASE`. -/
  objBase : Nat
  /-- `SPR_XWRAP`. -/
  sprXwrap : Nat
  /-- `BG_XBIAS`. -/
  bgXbias : Nat
  /-- `TRANSPARENT_PEN` of the foreground tiles. -/
  fgTransparent : Nat
  /-- `TRANSPARENT_PEN` of the sprites and objects. -/
  sprTransparent : Nat
  /-- `TRANSPARENT_PEN` of the background tiles. -/
  bgTransparent : Nat
  /-- `FILL_INDEX`. -/
  fillIndex : Nat
  /-- `N_COLORS`. -/
  nColors : Nat
deriving DecidableEq, Repr

/-- The parameters of the per-board table (R8, R9), arguments the model takes; `BoardParams.standard` in
Machine/Board.lean has the value the table gives each board. -/
structure BoardParams where
  /-- `HAS_BANKING`: the bank register and the ROM window exist. -/
  hasBanking : Bool
  /-- `XOR_MASK`: the mask XORed into the bank value. -/
  xorMask : Byte
  /-- `BANK_SIZE`: bytes of a bank. -/
  bankSize : Nat
  /-- `VE_MASK`: the bank-register bit that is `video_enable`, 0 where there is none. -/
  veMask : Byte
  /-- `BANK_FLIP_MASK`: the bank-register bit that is flip-screen, 0 where there is none. -/
  bankFlipMask : Byte
  /-- `HAS_VIDCTRL`: the separate video control register exists. -/
  hasVidctrl : Bool
  /-- `VIDCTRL_FLIP_MASK`: the flip bit of that register. -/
  vidctrlFlipMask : Byte
  /-- `HAS_FLIP_REG`: the register of `FLIP_WR` exists. -/
  hasFlipReg : Bool
  /-- `HAS_SR12`: `sharedram1` and `sharedram2` exist. -/
  hasSr12 : Bool
  /-- `HAS_SHR`: the single `shared_ram` exists. -/
  hasShr : Bool
  /-- `SR1_SIZE`: bytes of `sharedram1` (R62). -/
  sr1Size : Nat
  /-- `SR2_SIZE`: bytes of `sharedram2` (R61). -/
  sr2Size : Nat
  /-- `SR2_CPU_WINDOW`: the bytes of `sharedram2` a CPU can reach (R72). -/
  sr2CpuWindow : Nat
  /-- `SHR_SIZE`: bytes of `shared_ram` (R62). -/
  shrSize : Nat
  /-- `HAS_MCU`: the protection-MCU unit exists. -/
  hasMcu : Bool
  /-- `HAS_SNDLATCH`: the sound latch unit exists. -/
  hasSndlatch : Bool
  /-- `HAS_NMITRIG`: `NMITRIG_WR` exists. -/
  hasNmitrig : Bool
  /-- `HAS_FAKE`: `FAKE_RD` exists. -/
  hasFake : Bool
  /-- `VIDEO_VARIANT`: the compositor variant. -/
  variant : Variant
deriving DecidableEq, Repr

/-- The parameters fixed for a run that operations test: they stand in the state as plain data, and no
operation writes them (log 1). The per-board parameters (R9) are fields of it. -/
structure Cfg extends BoardParams where
  /-- `BOARD` (R8). -/
  board : Board
  /-- `PORT_B_IN`, the byte externally driven on Port B (R10, R29, D11). -/
  portBIn : Byte
  /-- The constants of R211 (R10). -/
  geometry : Geometry
deriving DecidableEq, Repr

/-- The identity a model records (R2). -/
structure Identity where
  name : String
  repository : String
  revision : String
  board : Board
deriving DecidableEq, Repr

/-- The identity of the machine of a configuration (R2). -/
def Cfg.identity (c : Cfg) : Identity where
  name := "Protection-MCU GPIO protocol state machine (hand-shook pulse-clocked proxy)"
  repository := "ValveSoftware/steamlink-sdk#sub399"
  revision := "v7"
  board := c.board

/-- A pixel of a bitmap: a palette index (R215). -/
abbrev Pixel := Nat

/-- One palette entry (R44, R212). -/
structure Rgb where
  r : Byte
  g : Byte
  b : Byte
deriving DecidableEq, Repr

/-- What `S_OBJ` gives for an object that is drawn (R228). -/
structure ObjBlit where
  x : Int
  y : Int
  tile : Nat
  color : Nat
  flipx : Bool
  flipy : Bool
deriving DecidableEq, Repr

/-- The graphics configuration of a machine: ROM data and OPEN functions, all total (R10, R214). It is an
argument of the compositor and no part of the state. -/
structure Gfx where
  /-- `TileGfx(set, code, px, py)`: the pen of one pixel of a tile. -/
  tileGfx : GfxSet → Nat → Nat → Nat → Nat
  /-- `CLUT(set, color, pen)`: a palette index. It is given the last index, `N_COLORS - 1`, and answers none above it. -/
  clut : (last : Nat) → GfxSet → Nat → Nat → Fin (last + 1)
  /-- `color_codes`: 32 bytes. -/
  colorCodes : Fin 32 → Byte
  /-- `S_SCROLL(back_scroll_x, back_scroll_y_lo, back_scroll_y_hi, flip_screen)` (R223). -/
  sScroll : Byte → Byte → BitVec 1 → Bool → Int × Int
  /-- `S_OBJ(X, code, Y, bank, flip_screen)` (R228). -/
  sObj : Byte → Byte → Byte → Byte → Bool → Option ObjBlit

namespace Config

/-- OPEN: the tile pixel data of the excluded graphics collaborator (R214, D26). -/
opaque tileGfx : GfxSet → Nat → Nat → Nat → Nat

/-- OPEN: the colour lookup table (R214, D26). -/
opaque clut : (last : Nat) → GfxSet → Nat → Nat → Fin (last + 1)

/-- OPEN: the 32 bytes of `color_codes` (R214, D26). -/
opaque colorCodes : Fin 32 → Byte

/-- OPEN: the scroll mapping of variant S (R223, D24). -/
opaque sScroll : Byte → Byte → BitVec 1 → Bool → Int × Int

/-- OPEN: the object mapping of variant S (R228, D24). -/
opaque sObj : Byte → Byte → Byte → Byte → Bool → Option ObjBlit

/-- OPEN: the red colour PROM, read at an index below `N_COLORS` (R10, R212). -/
opaque promR : Nat → Byte

/-- OPEN: the green colour PROM (R10, R212). -/
opaque promG : Nat → Byte

/-- OPEN: the blue colour PROM (R10, R212). -/
opaque promB : Nat → Byte

/-- OPEN: the ROM image, read at an index below `romSize` (R10, R54, D34). -/
opaque rom : Nat → Byte

/-- OPEN: `ROM_BASE`, the offset of bank 0 inside `rom` (R10, D34). -/
opaque romBase : Nat

/-- OPEN: how many bytes of `rom` lie beyond its eight banks; it makes `ROM_SIZE` any size that meets the
premise of R10. -/
opaque romBeyond : Nat

/-- OPEN: the byte driven on Port B from outside (R29, D11), as it stands in the machine after reset. -/
opaque portBIn : Byte

/-- Free value: the five input-port bytes at reset, which the spec leaves to be any five bytes (R51, R280, V6). -/
opaque inpAtReset : Fin 5 → Byte

/-- Free value: the `n`-th draw from the six values 0 to 5 (R15, R168, U3, D27); the state counts the draws. -/
opaque draw : Nat → Fin 6

/-- The graphics configuration the machine runs with. -/
def gfx : Gfx := ⟨tileGfx, clut, colorCodes, sScroll, sObj⟩

end Config

end Sys2Proof
end

