-- ==== Sys2Proof/Machine/Board.lean ====
section
/-! DEFINITION. The values of the per-board configuration table (00_scope R9), "a per-board configuration table, not
hard-coded logic" (R8), the defaults of the compositor's geometry and what is derived from it (45_video_compositor R211), and what
a configuration must meet (60_exceptions R268). -/
namespace Sys2Proof

/-- `VIDEO_VARIANT` of a board (R9). -/
def Board.variant : Board → Variant
  | .bublbobl => .s
  | .bootleg => .s
  | .tokio => .s
  | .kyugo => .k

/-- The per-board configuration table (R9). `HAS_MCU` is OPEN on `BOOTLEG` and `TOKIO` (D29), where it is `mcuFitted`; that
argument has no say on the other two boards. Where the table says "unused" the entry is one that no admitted operation
reads (log 10). -/
def BoardParams.standard (b : Board) (mcuFitted : Bool) : BoardParams :=
  match b with
  | .bublbobl =>
    { hasBanking := true, xorMask := 4, bankSize := 0x4000, veMask := 0x40, bankFlipMask := 0x80
      hasVidctrl := false, vidctrlFlipMask := 0, hasFlipReg := false
      hasSr12 := true, hasShr := false, sr1Size := 0x1800, sr2Size := 0x400, sr2CpuWindow := 0x400, shrSize := 0
      hasMcu := true, hasSndlatch := true, hasNmitrig := false, hasFake := false, variant := b.variant }
  | .bootleg =>
    { hasBanking := true, xorMask := 4, bankSize := 0x4000, veMask := 0x40, bankFlipMask := 0x80
      hasVidctrl := false, vidctrlFlipMask := 0, hasFlipReg := false
      hasSr12 := true, hasShr := false, sr1Size := 0x1800, sr2Size := 0x400, sr2CpuWindow := 0x100, shrSize := 0
      hasMcu := mcuFitted, hasSndlatch := true, hasNmitrig := false, hasFake := false, variant := b.variant }
  | .tokio =>
    { hasBanking := true, xorMask := 0, bankSize := 0x4000, veMask := 0, bankFlipMask := 0
      hasVidctrl := true, vidctrlFlipMask := 0x80, hasFlipReg := false
      hasSr12 := true, hasShr := false, sr1Size := 0x1800, sr2Size := 0x400, sr2CpuWindow := 0x400, shrSize := 0
      hasMcu := mcuFitted, hasSndlatch := true, hasNmitrig := true, hasFake := true, variant := b.variant }
  | .kyugo =>
    { hasBanking := false, xorMask := 0, bankSize := 0, veMask := 0, bankFlipMask := 0
      hasVidctrl := false, vidctrlFlipMask := 0, hasFlipReg := true
      hasSr12 := false, hasShr := true, sr1Size := 0, sr2Size := 0, sr2CpuWindow := 0, shrSize := 0x0800
      hasMcu := false, hasSndlatch := true, hasNmitrig := false, hasFake := false, variant := b.variant }

/-- Variant K, as a test. -/
def Cfg.isK (c : Cfg) : Bool := c.variant = .k

/-- `ROM_SIZE`: any size that holds the eight banks above `ROM_BASE` (R10, D34). -/
def Config.romSize (c : Cfg) : Nat := Config.romBase + 8 * c.bankSize + Config.romBeyond

/-! ## The geometry of the compositor (R211) -/

namespace Geometry

/-- The defaults of R211. Where the table says "none" or "unused" for a variant the entry is 0 and no admitted operation
reads it (log 10). -/
def standard : Variant → Geometry
  | .k =>
    { bgCols := 64, bgRows := 32, bgTile := 8
      fbW := 288, fbH := 256, clip := ⟨0, 287, 16, 239⟩
      objSize := 0x800, fgSize := 0x800, fgStride := 64, fgVisCols := 36, fgTile := 8
      sprTile := 16, objBase := 0x28, sprXwrap := 320, bgXbias := 32
      fgTransparent := 0, sprTransparent := 0, bgTransparent := 0
      fillIndex := 0, nColors := 256 }
  | .s =>
    { bgCols := 32, bgRows := 32, bgTile := 8
      fbW := 256, fbH := 256, clip := ⟨0, 255, 16, 239⟩
      objSize := 0x300, fgSize := 0, fgStride := 0, fgVisCols := 0, fgTile := 0
      sprTile := 16, objBase := 0, sprXwrap := 0, bgXbias := 0
      fgTransparent := 0, sprTransparent := 0, bgTransparent := 0
      fillIndex := 0, nColors := 256 }

/-- `VRAM_SIZE`, `BG_COLS * BG_ROWS` (R211). -/
def vramSize (q : Geometry) : Nat := q.bgCols * q.bgRows

/-- `TMP_W`, `BG_TILE * BG_COLS` (R211). -/
def tmpW (q : Geometry) : Nat := q.bgTile * q.bgCols

/-- `TMP_H`, `BG_TILE * BG_ROWS` (R211). -/
def tmpH (q : Geometry) : Nat := q.bgTile * q.bgRows

/-- The whole of `tmp`, as a rectangle (R220). -/
def tmpClip (q : Geometry) : Clip := ⟨0, q.tmpW - 1, 0, q.tmpH - 1⟩

/-- The tile edge of a set: `FG_TILE`, `SPR_TILE`, `BG_TILE` (R211). -/
def edge (q : Geometry) : GfxSet → Nat
  | .fg => q.fgTile
  | .spr => q.sprTile
  | .bg => q.bgTile

/-- `TRANSPARENT_PEN(set)` (R211). -/
def transparentPen (q : Geometry) : GfxSet → Nat
  | .fg => q.fgTransparent
  | .spr => q.sprTransparent
  | .bg => q.bgTransparent

/-- `CLUT(set, color, pen)` at this geometry's `N_COLORS` (R211, R214). -/
def colour (q : Geometry) (g : Gfx) (set : GfxSet) (color pen : Nat) : Pixel :=
  (g.clut (q.nColors - 1) set color pen).val

end Geometry

/-- The configuration of a board with the values of R9 and the defaults of R211. -/
def Cfg.standard (b : Board) (mcuFitted : Bool) (portBIn : Byte) : Cfg where
  toBoardParams := BoardParams.standard b mcuFitted
  board := b
  portBIn := portBIn
  geometry := Geometry.standard b.variant

/-- The configuration the machine has after `State.reset`: the board the test vectors use, the MCU fitted
(D29's default), Port B driven by an OPEN byte, the default geometry (logs 1, 8). -/
def Config.shipped : Cfg := Cfg.standard .bublbobl true Config.portBIn

/-- What a configuration must meet for its rules to have their meaning (60_exceptions R268, log 8): the visible rectangle
lies inside `fb` (R211), `tmp` is not empty (R217 divides by its sides), the palette has an entry and the fill index is
one of its indices (R214, R215), in variant K the foreground has columns (R226 divides by them) and the sprite table lies
inside its regions (R224), the CPU window lies inside `sharedram2` (R72), and the MCU has a `sharedram2` that holds every
offset its proxy can address (R61, R71). -/
structure Cfg.Sound (c : Cfg) : Prop where
  clipX : c.geometry.clip.x1 < c.geometry.fbW
  clipY : c.geometry.clip.y1 < c.geometry.fbH
  tmpW : 0 < c.geometry.tmpW
  tmpH : 0 < c.geometry.tmpH
  colours : 0 < c.geometry.nColors
  fill : c.geometry.fillIndex < c.geometry.nColors
  foreground : c.variant = .k → 0 < c.geometry.fgStride
  sprites : c.variant = .k →
    c.geometry.objBase + 2007 < c.geometry.objSize ∧ c.geometry.objBase + 2007 < c.geometry.fgSize
  window : c.hasSr12 = true → c.sr2CpuWindow ≤ c.sr2Size
  proxy : c.hasMcu = true → c.hasSr12 = true ∧ 0x400 ≤ c.sr2Size

end Sys2Proof
end

