-- ==== Sys2Proof/Syntax.lean ====
section
/-! DEFINITION. The 42 operations of the block, one constructor per row of spec/opcode_table.json (30_encoding
R100), the six agents that issue them (00_scope R18) and the transaction, a pair of an agent and a word (R94). -/
namespace Sys2Proof

/-- Whoever causes an operation (R18). -/
inductive Agent where
  | main | sub | sound | mcu | sched | env
deriving DecidableEq, Repr

/-- The operations, in the opcode table's order. `off` and `idx` are the operand `A`, `v` is the operand `D`
(R93); the strobes of format `F_X` keep the data byte they ignore, so that no bit of a word is lost (R92). -/
inductive Instr where
  -- Shared-Memory Region (40_shared_memory)
  | sr1Rd (off : Offset)
  | sr1Wr (off : Offset) (v : Byte)
  | sr2Rd (off : Offset)
  | sr2Wr (off : Offset) (v : Byte)
  | shrRd (off : Offset)
  | shrWr (off : Offset) (v : Byte)
  -- Bank-Switch Controller (41_bank_switch)
  | bankWr (v : Byte)
  | vidctrlWr (v : Byte)
  | romwinRd (off : Offset)
  -- Sound-Command Latch (42_sound_latch)
  | sndcmdWr (v : Byte)
  | sndlatchRd
  | nmiDis (ignored : Byte)
  | nmiEn (ignored : Byte)
  | nmitrigWr (ignored : Byte)
  -- Protection MCU (43_protection_mcu)
  | mcuPaRd
  | mcuPaWr (v : Byte)
  | mcuDdraWr (v : Byte)
  | mcuPbRd
  | mcuPbWr (v : Byte)
  | mcuDdrbWr (v : Byte)
  | mcuIrqTick
  -- Video RAM and video registers (44_video_ram_and_registers)
  | vramRd (off : Offset)
  | vramWr (off : Offset) (v : Byte)
  | cramRd (off : Offset)
  | cramWr (off : Offset) (v : Byte)
  | objRd (off : Offset)
  | objWr (off : Offset) (v : Byte)
  | objxRd (off : Offset)
  | objxWr (off : Offset) (v : Byte)
  | fgRd (off : Offset)
  | fgWr (off : Offset) (v : Byte)
  | scrxWr (v : Byte)
  | scryloWr (v : Byte)
  | scryhiWr (v : Byte)
  | palbankWr (v : Byte)
  | frontcolWr (v : Byte)
  | flipWr (v : Byte)
  -- Video Compositor (45_video_compositor)
  | screenRefresh (full : Bool)
  -- Miscellaneous registers, interrupt acknowledge, inputs (46_misc_registers, 60_exceptions)
  | fakeRd
  | nopWr (off : Offset) (v : Byte)
  | mainIrqAck
  | envInport (idx : Offset) (v : Byte)
deriving DecidableEq, Repr

/-- One transaction: the agent is no part of the word (R94). -/
structure Transaction where
  agent : Agent
  word : Word
deriving DecidableEq, Repr

/-- Why a word, or a string of bytes, is no operation of the opcode map (R105 (a), (b)). -/
inductive DecodeError where
  /-- `OP` is not in the opcode map (R100, R105 (a)). -/
  | unknownOpcode (op : Byte)
  /-- A field that the operation's format requires to be zero is nonzero (R92, R105 (b)). -/
  | nonzeroField (op : Byte)
  /-- Fewer than the four bytes of a serialised word (R91). -/
  | truncated
deriving DecidableEq, Repr

end Sys2Proof
end

