-- ==== Sys2Proof/Machine/Operands.lean ====
section
/-! DEFINITION. What a transaction is checked against before its operation acts (30_encoding R105 (c), (d), (e)):
whether the operation exists on the board, whether the agent has a wire to it, whether its offset lies inside the
space it names. -/
namespace Sys2Proof

/-- "exists when" of the opcode map (R100). -/
def Instr.existsOn (c : Cfg) : Instr → Bool
  | .sr1Rd _ | .sr1Wr _ _ | .sr2Rd _ | .sr2Wr _ _ => c.hasSr12
  | .shrRd _ | .shrWr _ _ => c.hasShr
  | .bankWr _ | .romwinRd _ => c.hasBanking
  | .vidctrlWr _ => c.hasVidctrl
  | .sndcmdWr _ | .sndlatchRd | .nmiDis _ | .nmiEn _ => c.hasSndlatch
  | .nmitrigWr _ => c.hasNmitrig
  | .mcuPaRd | .mcuPaWr _ | .mcuDdraWr _ | .mcuPbRd | .mcuPbWr _ | .mcuDdrbWr _ | .mcuIrqTick => c.hasMcu
  | .vramRd _ | .vramWr _ _ | .cramRd _ | .cramWr _ _ | .objRd _ | .objWr _ _ => true
  | .objxRd _ | .objxWr _ _ | .fgRd _ | .fgWr _ _ => c.isK
  | .scrxWr _ | .scryloWr _ | .scryhiWr _ => true
  | .palbankWr _ | .frontcolWr _ => c.isK
  | .flipWr _ => c.hasFlipReg
  | .screenRefresh _ => true
  | .fakeRd => c.hasFake
  | .nopWr _ _ => true
  | .mainIrqAck => c.hasMcu
  | .envInport _ _ => true

/-- The agents that may issue an operation (60_exceptions R262). -/
def Instr.issuers : Instr → List Agent
  | .sr1Rd _ | .sr1Wr _ _ | .sr2Rd _ | .sr2Wr _ _ | .shrRd _ | .shrWr _ _ => [.main, .sub]
  | .bankWr _ | .vidctrlWr _ | .romwinRd _ => [.main]
  | .sndcmdWr _ => [.main]
  | .sndlatchRd | .nmiDis _ | .nmiEn _ => [.sound]
  | .nmitrigWr _ => [.main]
  | .mcuPaRd | .mcuPaWr _ | .mcuDdraWr _ | .mcuPbRd | .mcuPbWr _ | .mcuDdrbWr _ => [.mcu]
  | .mcuIrqTick => [.sched]
  | .vramRd _ | .vramWr _ _ | .cramRd _ | .cramWr _ _ | .objRd _ | .objWr _ _ => [.main]
  | .objxRd _ | .objxWr _ _ | .fgRd _ | .fgWr _ _ => [.main]
  | .scrxWr _ | .scryloWr _ | .scryhiWr _ | .palbankWr _ | .frontcolWr _ | .flipWr _ => [.main]
  | .screenRefresh _ => [.sched]
  | .fakeRd => [.main]
  | .nopWr _ _ => [.main, .sub, .sound]
  | .mainIrqAck => [.main]
  | .envInport _ _ => [.env]

/-- The range check of the `A` operand (20_memory R68): the offset lies inside its space, inside the CPU window of
`sharedram2`, inside the bank window, or names one of the five input ports. -/
def Instr.inRange (c : Cfg) : Instr → Bool
  | .sr1Rd off | .sr1Wr off _ => off.toNat < c.sr1Size
  | .sr2Rd off | .sr2Wr off _ => off.toNat < c.sr2CpuWindow
  | .shrRd off | .shrWr off _ => off.toNat < c.shrSize
  | .romwinRd off => off.toNat < c.bankSize
  | .vramRd off | .vramWr off _ | .cramRd off | .cramWr off _ => off.toNat < c.geometry.vramSize
  | .objRd off | .objWr off _ | .objxRd off | .objxWr off _ => off.toNat < c.geometry.objSize
  | .fgRd off | .fgWr off _ => off.toNat < c.geometry.fgSize
  | .envInport idx _ => idx.toNat < 5
  | .bankWr _ | .vidctrlWr _ => true
  | .sndcmdWr _ | .sndlatchRd | .nmiDis _ | .nmiEn _ | .nmitrigWr _ => true
  | .mcuPaRd | .mcuPaWr _ | .mcuDdraWr _ | .mcuPbRd | .mcuPbWr _ | .mcuDdrbWr _ | .mcuIrqTick => true
  | .scrxWr _ | .scryloWr _ | .scryhiWr _ | .palbankWr _ | .frontcolWr _ | .flipWr _ => true
  | .screenRefresh _ | .fakeRd | .nopWr _ _ | .mainIrqAck => true

end Sys2Proof
end

