-- ==== Sys2Proof/Machine/Palette.lean ====
section
/-! DEFINITION. The palette decode, pipeline step 1 of the compositor, which is part of reset itself
(45_video_compositor R212, 70_reset_and_hazards R282). -/
namespace Sys2Proof.Machine

open Sys2Proof

/-- `Dac(b)`: the weighted sum of bits 3 to 0; bits 7 to 4 have no weight (R212, R98). -/
def dac (b : Byte) : Byte :=
  (if b.getLsbD 0 then 0x0E else 0) + (if b.getLsbD 1 then 0x1F else 0)
    + (if b.getLsbD 2 then 0x43 else 0) + (if b.getLsbD 3 then 0x8F else 0)

/-- The palette of `n` entries decoded from three colour PROMs (R212). -/
def decodePalette (n : Nat) (r g b : Nat → Byte) : List Rgb :=
  (List.range n).map fun i => ⟨dac (r i), dac (g i), dac (b i)⟩

end Sys2Proof.Machine
end

