-- ==== Sys2Proof/Machine/State.lean ====
section
/-! DEFINITION. The state of the block, as plain data (10_state), its value after machine-init (70_reset_and_hazards
R280), and the reasons a run can stop. Four fields are the model's own and no part of the block: `script`, `agent`,
`ret`, `draws`; `cfg` is the configuration, which no operation writes. -/
namespace Sys2Proof.Machine

open Sys2Proof

/-- The kinds of event the block appends to its output trace (R47, R248). -/
inductive Event where
  /-- A pulse on the sound CPU's NMI line (R142, R145). -/
  | nmiSound
  /-- A pulse on the second CPU's NMI line (R146). -/
  | nmiSub
  /-- The held interrupt of the main CPU, with its vector (R168). -/
  | irqMain (vector : Byte)
  /-- The new level of the MCU's own interrupt line (R172). -/
  | irqMcu (level : Bool)
  /-- An unmapped proxied access (R247). -/
  | diag (code : Byte) (addr : BitVec 16)
deriving DecidableEq, Repr

/-- A memory space: pairs of an offset and a cell, offsets strictly rising, no cell 0; an unlisted offset reads as 0,
the value every cell has after reset (R52, R53, R280). `Memory 8` is a list of `Host.Cell`. -/
abbrev Memory (w : Nat) := List (Nat × BitVec w)

/-- A bitmap of `w` by `h` palette indices, row after row from the top (R215). -/
structure Bitmap where
  w : Nat
  h : Nat
  px : Array Pixel
deriving DecidableEq, Repr

/-- A bitmap with every pixel 0 (R49, R50). -/
def Bitmap.blank (w h : Nat) : Bitmap := ⟨w, h, Array.replicate (w * h) 0⟩

/-- The block raises no exception, trap or fault: "There is no (d)" (60_exceptions R245, R246). -/
inductive Fault where
deriving DecidableEq, Repr

/-- Requests the spec refuses (R267): the step ends with no state change and the run is marked refused; the hardware
is not claimed to stop on any of them, so a refusal errs toward unprovable (safe). -/
inductive Refusal where
  /-- An operation whose meaning is not written yet; raised by an arm of `exec` alone (safe). -/
  | notModelled (mnemonic : String)
  /-- The word is no operation of the opcode map (R105 (a), (b)); raised by the step (safe). -/
  | badWord (e : DecodeError)
  /-- The operation does not exist on this board (R105 (c)); raised by every meaning (safe). -/
  | notOnBoard
  /-- The agent has no wire to the operation (R105 (d), R262); raised by every meaning (safe). -/
  | agentNotWired
  /-- The offset or index is outside its space (R105 (e), R68); raised by every meaning with an `A` operand (safe). -/
  | outOfRange
deriving DecidableEq, Repr

/-- The state: the configuration, every register, flag, memory and bitmap the spec gives the block, and the model's
own four fields. -/
structure State where
  /-- `BOARD`, `HAS_MCU` where it is OPEN, `PORT_B_IN`, the geometry (R8 to R10); written by nothing. -/
  cfg : Cfg
  /-- R21. -/
  portAOut : Byte
  /-- R22. -/
  portAIn : Byte
  /-- R23. -/
  ddrA : Byte
  /-- R24; also the previous value of every edge test (R48). -/
  portBOut : Byte
  /-- R25. -/
  ddrB : Byte
  /-- R26. -/
  address : BitVec 16
  /-- R27. -/
  latch : Byte
  /-- R30. -/
  sndCmd : Byte
  /-- R31. -/
  nmiEnabled : Bool
  /-- R32. -/
  nmiPending : Bool
  /-- R34. -/
  bankIndex : BitVec 3
  /-- R35; read through `State.videoEnabled`, which hard-wires it where the board does. -/
  videoEnable : Bool
  /-- R36. -/
  flipScreen : Bool
  /-- R37. -/
  backScrollX : Byte
  /-- R38. -/
  backScrollYLo : Byte
  /-- R39. -/
  backScrollYHi : BitVec 1
  /-- R40. -/
  paletteBank : BitVec 1
  /-- R40. -/
  frontColor : BitVec 1
  /-- R41. -/
  repaint : Bool
  /-- R43: the set of marked cells, ascending. -/
  dirty : List Nat
  /-- R44: `N_COLORS` entries, in order. -/
  palette : List Rgb
  /-- R45. -/
  mcuIrqLine : Bool
  /-- R46. -/
  mainIrqPending : Bool
  /-- R46. -/
  mainIrqVector : Byte
  /-- R47, oldest first. -/
  events : List Event
  /-- R52. -/
  sharedram1 : Memory 8
  /-- R52. -/
  sharedram2 : Memory 8
  /-- R52. -/
  sharedRam : Memory 8
  /-- R53. -/
  vram : Memory 8
  /-- R53. -/
  cram : Memory 8
  /-- R53. -/
  objram : Memory 8
  /-- R53: cells of 4 bits. -/
  objxram : Memory 4
  /-- R53. -/
  fgram : Memory 8
  /-- R49. -/
  tmp : Bitmap
  /-- R50. -/
  fb : Bitmap
  /-- R51: `inp[0]` to `inp[4]`. -/
  inp : Vector Byte 5
  /-- The model's own: the transactions still to come, in the total order the scheduler chose (R75, R76). -/
  script : List Transaction
  /-- The model's own: the agent of the transaction being performed (R94). -/
  agent : Agent
  /-- The model's own: the byte the operation returned to its agent, if it returned one (R15 `ret`). -/
  ret : Option Byte
  /-- The model's own: how many draws have been made; the next is `Config.draw draws` (R15 `draw`). -/
  draws : Nat
deriving DecidableEq, Repr

/-- Machine-init of a board (R280, R282): the spec's reset value of every field; `inp` holds the free five bytes and
the model's own fields are empty. -/
def State.resetFor (c : Cfg) : State where
  cfg := c
  portAOut := 0
  portAIn := 0
  ddrA := 0
  portBOut := 0
  ddrB := 0
  address := 0
  latch := 0
  sndCmd := 0
  nmiEnabled := false
  nmiPending := false
  bankIndex := 0
  videoEnable := c.veMask = 0
  flipScreen := false
  backScrollX := 0
  backScrollYLo := 0
  backScrollYHi := 0
  paletteBank := 0
  frontColor := 0
  repaint := true
  dirty := List.range c.geometry.vramSize
  palette := decodePalette c.geometry.nColors Config.promR Config.promG Config.promB
  mcuIrqLine := false
  mainIrqPending := false
  mainIrqVector := 0
  events := []
  sharedram1 := []
  sharedram2 := []
  sharedRam := []
  vram := []
  cram := []
  objram := []
  objxram := []
  fgram := []
  tmp := Bitmap.blank c.geometry.tmpW c.geometry.tmpH
  fb := Bitmap.blank c.geometry.fbW c.geometry.fbH
  inp := Vector.ofFn Config.inpAtReset
  script := []
  agent := .main
  ret := none
  draws := 0

/-- The machine after reset: machine-init of the configuration the machine is shipped with (log 1). -/
def State.reset : State := State.resetFor Config.shipped

end Sys2Proof.Machine
end

