-- ==== Sys2Proof/Machine/Ops.lean ====
section
/-! DEFINITION. The named operations over the block's state that the meanings share: reading and writing a memory
space (20_memory R66, R75), the outcome primitives `ret`, `emit` and `draw` (00_scope R15), the port read-back law
(43 R156), the hard-wired `video_enable` (10_state R35), raising the main CPU's held interrupt and its acknowledge
(60_exceptions R252, R253), and the check every transaction passes (30_encoding R105). -/
namespace Sys2Proof.Machine

open Sys2Proof

/-! ## Memory spaces -/

/-- What an unlisted offset reads as: the reset value of every cell (R52, R53, R280). -/
def Memory.unlisted (w : Nat) : BitVec w := 0

/-- `MemRead(space, off, 1)` (R14). -/
def Memory.read {w : Nat} : Memory w → Nat → BitVec w
  | [], _ => Memory.unlisted w
  | (b, v) :: t, a => if b = a then v else Memory.read t a

/-- The space with the entry of one offset taken out. -/
def Memory.clear {w : Nat} (m : Memory w) (a : Nat) : Memory w := m.filter fun c => c.1 ≠ a

/-- The space with an entry put at its place in the order. -/
def Memory.place {w : Nat} (a : Nat) (v : BitVec w) : Memory w → Memory w
  | [] => [(a, v)]
  | c :: t => if a < c.1 then (a, v) :: c :: t else c :: Memory.place a v t

/-- `MemWrite(space, off, 1, v)` (R14): writing what an unlisted offset reads as removes the entry. -/
def Memory.write {w : Nat} (m : Memory w) (a : Nat) (v : BitVec w) : Memory w :=
  if v = Memory.unlisted w then m.clear a else (m.clear a).place a v

/-- The canonical form: offsets strictly rising, no cell equal to what an unlisted offset reads as. -/
abbrev Memory.wf {w : Nat} (m : Memory w) : Prop :=
  m.Pairwise (fun c d => c.1 < d.1) ∧ ∀ c ∈ m, c.2 ≠ Memory.unlisted w

/-- Every listed offset lies inside a space of `n` cells (R60). -/
abbrev Memory.within {w : Nat} (m : Memory w) (n : Nat) : Prop := ∀ c ∈ m, c.1 < n

/-! ## Outcome primitives (R15) -/

/-- `ret v`. -/
def State.reply (s : State) (v : Byte) : State := { s with ret := some v }

/-- `emit E`. -/
def State.emit (s : State) (e : Event) : State := { s with events := s.events ++ [e] }

/-- The value of the next `draw r in {0, 1, 2, 3, 4, 5}`: nothing constrains it (R168, D27). -/
def State.nextDraw (s : State) : Byte := BitVec.ofNat 8 (Config.draw s.draws).val

/-! ## Registers with a rule of their own -/

/-- The read-back law of a GPIO port: output bits show the latch, input bits the pin (R156, R159). -/
def portRead (out pin ddr : Byte) : Byte := (out &&& ddr) ||| (pin &&& ~~~ddr)

/-- `video_enable` as it is read: hard-wired true on a board whose `VE_MASK` is 0 (R35). -/
def State.videoEnabled (s : State) : Bool := s.cfg.veMask = 0 || s.videoEnable

/-- A read of `inp[index]` (R51). -/
def State.inputPort (s : State) (index : Fin 5) : Byte := s.inp[index]

/-- The index `(address & 3) + 1` of the input port a proxied read samples: 1 to 4 (R166). -/
def portIndex (address : BitVec 16) : Fin 5 := ⟨(address &&& 3).toNat % 4 + 1, by omega⟩

/-- The index of the ROM byte the window shows at an offset (R74, R133). -/
def State.romIndex (s : State) (off : Nat) : Nat :=
  Config.romBase + s.cfg.bankSize * s.bankIndex.toNat + off

/-! ## Raising the main CPU's interrupt, and its acknowledge -/

/-- Raising the held interrupt with the value of the draw given: the obfuscation write to `sharedram2[0x7C]`, THEN the
vector from `sharedram2[0]`, the pending flag and the event (R168, R252). -/
def State.raiseMainIrqWith (s : State) (r : Byte) : State :=
  let ram := s.sharedram2.write 0x7C r
  { s with
    sharedram2 := ram
    mainIrqVector := ram.read 0
    mainIrqPending := true
    events := s.events ++ [.irqMain (ram.read 0)] }

/-- `IrqAction()`: raising the held interrupt, the random byte being the next draw (R168). -/
def State.raiseMainIrq (s : State) : State :=
  { s.raiseMainIrqWith s.nextDraw with draws := s.draws + 1 }

/-- The main CPU takes the held interrupt: the vector is returned and kept, the request is cleared (R253). -/
def State.ackMainIrq (s : State) : State := { s with ret := some s.mainIrqVector, mainIrqPending := false }

/-! ## The check of a transaction (R105, R267) -/

/-- Why the state's agent may not have the operation performed, if it may not. -/
def State.refusal (s : State) (i : Instr) : Option Refusal :=
  if i.existsOn s.cfg = false then some .notOnBoard
  else if i.issuers.contains s.agent = false then some .agentNotWired
  else if i.inRange s.cfg = false then some .outOfRange
  else none

/-- The outcome of an operation: its next state if the transaction is admitted, the refusal otherwise. -/
def State.perform (s : State) (i : Instr) (t : State) : Host.Outcome State Fault Refusal :=
  match s.refusal i with
  | some r => .refused r
  | none => .next t

end Sys2Proof.Machine
end

