-- ==== Sys2Proof/Machine/Flags.lean ====
section
/-! DEFINITION. The status flags that more than one operation writes (10_state R42): the dirty bits and `repaint`
(R41, R43), `flip_screen` (R36), and the sound latch's pending flag (42_sound_latch R142). The block has no
arithmetic condition codes. -/
namespace Sys2Proof.Machine

open Sys2Proof

/-- The marked set with one cell added; marking a marked cell changes nothing (R43). -/
def markIn (n : Nat) : List Nat → List Nat
  | [] => [n]
  | m :: t => if n < m then n :: m :: t else if n = m then m :: t else m :: markIn n t

/-- `if VIDEO_VARIANT = S then repaint <- true` (R187, R197); the flag exists in variant S only (R41). -/
def State.repaintOnMark (s : State) : Bool :=
  match s.cfg.variant with
  | .s => true
  | .k => s.repaint

/-- `dirty[n] <- 1`, with the repaint flag (R187, R189). -/
def State.markCell (s : State) (n : Nat) : State :=
  { s with dirty := markIn n s.dirty, repaint := s.repaintOnMark }

/-- `MarkAllDirty()` (R197). -/
def State.markAllDirty (s : State) : State :=
  { s with dirty := List.range s.cfg.geometry.vramSize, repaint := s.repaintOnMark }

/-- `flip_screen <- new`, marking every cell if the value changes (R131, R132, R204). -/
def State.setFlip (s : State) (new : Bool) : State :=
  { (if new ≠ s.flipScreen then s.markAllDirty else s) with flipScreen := new }

/-- `NmiAssertEvent()` (R142). -/
def State.nmiAssert (s : State) : State :=
  if s.nmiEnabled then s.emit .nmiSound else { s with nmiPending := true }

end Sys2Proof.Machine
end

