-- ==== Sys2Proof/Machine/Bank.lean ====
section
/-! DEFINITION. The meanings of the Bank-Switch Controller's operations (41_bank_switch R131 to R133). -/
namespace Sys2Proof.Machine

open Sys2Proof

/-- The decoded bank, `(v ^ XOR_MASK) & 0x7` (R131, R134). -/
def decodedBank (c : Cfg) (v : Byte) : BitVec 3 := (v ^^^ c.xorMask).extractLsb' 0 3

/-- `video_enable <- ((v & VE_MASK) != 0)` where the board has the bit (R131). -/
def State.bankVideo (s : State) (v : Byte) : State :=
  if s.cfg.veMask ≠ 0 then { s with videoEnable := v &&& s.cfg.veMask ≠ 0 } else s

/-- The flip-screen side effect where the board has the bit (R131). -/
def State.bankFlip (s : State) (v : Byte) : State :=
  if s.cfg.bankFlipMask ≠ 0 then s.setFlip (v &&& s.cfg.bankFlipMask ≠ 0) else s

/-- `BANK_WR v` (R131): the decode, then the side channel. -/
def execBankWr (v : Byte) (s : State) : Host.Outcome State Fault Refusal :=
  s.perform (.bankWr v) (({ s with bankIndex := decodedBank s.cfg v }.bankVideo v).bankFlip v)

/-- `VIDCTRL_WR v` (R132): flip-screen alone. -/
def execVidctrlWr (v : Byte) (s : State) : Host.Outcome State Fault Refusal :=
  s.perform (.vidctrlWr v) (s.setFlip (v &&& s.cfg.vidctrlFlipMask ≠ 0))

/-- `ROMWIN_RD off` (R133): the byte of `rom` the window shows. -/
def execRomwinRd (off : Offset) (s : State) : Host.Outcome State Fault Refusal :=
  s.perform (.romwinRd off) (s.reply (Config.rom (s.romIndex off.toNat)))

end Sys2Proof.Machine
end

