-- ==== Sys2Proof/Machine/Compositor.lean ====
section
/-! DEFINITION. The Video Compositor: the frame operation `SCREEN_REFRESH` and its helper procedures
(45_video_compositor R215 to R228). The graphics configuration is an argument `g`; the machine runs with
`Config.gfx`. -/
namespace Sys2Proof

/-! ## Rectangles (R211) -/

/-- The position lies inside the rectangle. -/
def Clip.holds (c : Clip) (x y : Int) : Bool := c.x0 ≤ x ∧ x ≤ c.x1 ∧ c.y0 ≤ y ∧ y ≤ c.y1

/-- The columns of a rectangle. -/
def Clip.columns (c : Clip) : List Nat := List.range' c.x0 (c.x1 + 1 - c.x0)

/-- The rows of a rectangle. -/
def Clip.rows (c : Clip) : List Nat := List.range' c.y0 (c.y1 + 1 - c.y0)

/-- A rectangle inside a bitmap of the given size. -/
abbrev Clip.inside (c : Clip) (w h : Nat) : Prop := c.x1 < w ∧ c.y1 < h

namespace Machine

/-! ## Bitmaps (R215) -/

/-- The pixel (`x`, `y`). -/
def Bitmap.get (b : Bitmap) (x y : Nat) : Pixel := if x < b.w then b.px.getD (y * b.w + x) 0 else 0

/-- The bitmap with the pixel (`x`, `y`) written; a position outside it is dropped. -/
def Bitmap.put (b : Bitmap) (x y : Nat) (p : Pixel) : Bitmap :=
  if x < b.w then { b with px := b.px.setIfInBounds (y * b.w + x) p } else b

/-- A bitmap of the given size that holds all its pixels. -/
abbrev Bitmap.sized (b : Bitmap) (w h : Nat) : Prop := b.w = w ∧ b.h = h ∧ b.px.size = w * h

/-- The bitmap with every pixel inside the rectangle replaced by the colour given for its position. -/
def Bitmap.paint (b : Bitmap) (c : Clip) (colour : Nat → Nat → Pixel) : Bitmap :=
  c.rows.foldl (fun d y => c.columns.foldl (fun e x => e.put x y (colour x y)) d) b

/-! ## Blit (R216) -/

/-- The transparency mode of a blit. -/
inductive BlitMode where
  /-- Every pixel is written. -/
  | none
  /-- A pixel of the transparent pen is skipped. -/
  | pen
deriving DecidableEq, Repr

/-- What a blit draws: the arguments of R216 but for the bitmap, the clip and the mode. -/
structure Tile where
  set : GfxSet
  code : Nat
  color : Nat
  flipx : Bool
  flipy : Bool
  x : Int
  y : Int
deriving DecidableEq, Repr

/-- The pen of the tile's pixel (`px`, `py`), its flips applied. -/
def Tile.pen (t : Tile) (q : Geometry) (g : Gfx) (px py : Nat) : Nat :=
  g.tileGfx t.set t.code (if t.flipx then q.edge t.set - 1 - px else px)
    (if t.flipy then q.edge t.set - 1 - py else py)

/-- One turn of the loop of R216. -/
def blitPixel (q : Geometry) (g : Gfx) (clip : Clip) (mode : BlitMode) (t : Tile) (d : Bitmap) (px py : Nat) : Bitmap :=
  if clip.holds (t.x + px) (t.y + py) then
    if mode = BlitMode.pen ∧ t.pen q g px py = q.transparentPen t.set then d
    else d.put (t.x + px).toNat (t.y + py).toNat (q.colour g t.set t.color (t.pen q g px py))
  else d

/-- `Blit(dest, set, code, color, flipx, flipy, x, y, clip, mode)` (R216). -/
def blit (q : Geometry) (g : Gfx) (clip : Clip) (mode : BlitMode) (d : Bitmap) (t : Tile) : Bitmap :=
  (List.range (q.edge t.set)).foldl
    (fun e py => (List.range (q.edge t.set)).foldl (fun f px => blitPixel q g clip mode t f px py) e) d

/-- Tiles blitted one after another, later ones over earlier ones. -/
def blitAll (q : Geometry) (g : Gfx) (clip : Clip) (mode : BlitMode) (d : Bitmap) (ts : List Tile) : Bitmap :=
  ts.foldl (blit q g clip mode) d

/-! ## The background layer (R220) -/

/-- The blit of `DrawBgCell(n)` (R220). -/
def State.bgTile (s : State) (n : Nat) : Tile :=
  let q := s.cfg.geometry
  let attr := s.cram.read n
  let col := n % q.bgCols
  let row := n / q.bgCols
  let bank := match s.cfg.variant with
    | .k => 16 * s.paletteBank.toNat
    | .s => 0
  { set := .bg
    code := (s.vram.read n).toNat + 256 * (attr.extractLsb' 0 2).toNat
    color := (attr.extractLsb' 4 4).toNat + bank
    flipx := attr.getLsbD 2 ^^ s.flipScreen
    flipy := attr.getLsbD 3 ^^ s.flipScreen
    x := (q.bgTile : Int) * (if s.flipScreen then q.bgCols - 1 - col else col : Nat)
    y := (q.bgTile : Int) * (if s.flipScreen then q.bgRows - 1 - row else row : Nat) }

/-- The cells `RedrawBackground()` draws: the dirty ones in variant K, all or none in variant S (R220). -/
def State.redrawCells (s : State) : List Nat :=
  match s.cfg.variant with
  | .k => s.dirty
  | .s => if s.repaint then List.range s.cfg.geometry.vramSize else []

/-- `RedrawBackground()` (R220). -/
def State.redrawBackground (g : Gfx) (s : State) : State :=
  { s with
    tmp := blitAll s.cfg.geometry g s.cfg.geometry.tmpClip .none s.tmp (s.redrawCells.map s.bgTile)
    dirty := []
    repaint := match s.cfg.variant with
      | .k => s.repaint
      | .s => false }

/-! ## Scroll (R217, R222, R223) -/

/-- `V`, the combined scroll value (R200, R222). -/
def State.scrollV (s : State) : Nat := s.backScrollYLo.toNat + 256 * s.backScrollYHi.toNat

/-- The default of `S_SCROLL`, which the machine does not assume (R223). -/
def sScrollDefault (x lo : Byte) (hi : BitVec 1) (flip : Bool) : Int × Int :=
  let v : Int := lo.toNat + 256 * hi.toNat
  if flip then ((x.toNat : Int), v) else (-(x.toNat : Int), -v)

/-- `ScrollOffset()` (R222, R223). -/
def State.scrollOffset (g : Gfx) (s : State) : Int × Int :=
  match s.cfg.variant with
  | .k =>
    (-((s.cfg.geometry.bgXbias : Int) + s.scrollV),
      if s.flipScreen then (s.backScrollX.toNat : Int) else -(s.backScrollX.toNat : Int))
  | .s => g.sScroll s.backScrollX s.backScrollYLo s.backScrollYHi s.flipScreen

/-- The pixel of `tmp` that `ScrollCopy(dx, dy)` shows at (`x`, `y`) (R217). -/
def scrolled (q : Geometry) (tmp : Bitmap) (dx dy : Int) (x y : Nat) : Pixel :=
  tmp.get (((x : Int) - dx) % q.tmpW).toNat (((y : Int) - dy) % q.tmpH).toNat

/-- `ScrollCopy(dx, dy)` onto a frame buffer (R217). -/
def scrollCopy (q : Geometry) (tmp fb : Bitmap) (dx dy : Int) : Bitmap :=
  fb.paint q.clip (scrolled q tmp dx dy)

/-! ## Sprites of variant K (R224) -/

/-- `offs` of sprite `n` (R224). -/
def spriteOffs (q : Geometry) (n : Nat) : Nat := q.objBase + 2 * (n % 12) + 64 * (n / 12)

/-- `sx` of the sprite at `offs` (R224). -/
def State.spriteX (s : State) (offs : Nat) : Int :=
  let raw : Int := (s.fgram.read (offs + 1)).toNat + 256 * ((s.objxram.read (offs + 1)).extractLsb' 0 1).toNat
  if raw > s.cfg.geometry.sprXwrap then raw - 512 else raw

/-- `sy` of the sprite at `offs` (R224). -/
def State.spriteY (s : State) (offs : Nat) : Int :=
  let raw : Int := 255 - (s.objram.read offs).toNat
  if s.flipScreen then 240 - raw else raw

/-- The blit of sub-tile `y` of sprite `n` (R224). -/
def State.spriteTile (s : State) (n y : Nat) : Tile :=
  let offs := spriteOffs s.cfg.geometry n
  let attr2 := s.objxram.read (offs + 128 * y)
  { set := .spr
    code := (s.fgram.read (offs + 128 * y)).toNat + (if attr2.getLsbD 0 then 512 else 0)
      + (if attr2.getLsbD 1 then 256 else 0)
    color := (s.objram.read (offs + 1) &&& 0x1F).toNat
    flipx := attr2.getLsbD 3 ^^ s.flipScreen
    flipy := attr2.getLsbD 2 ^^ s.flipScreen
    x := s.spriteX offs
    y := if s.flipScreen then s.spriteY offs - 16 * y else s.spriteY offs + 16 * y }

/-- The blits of `DrawSpritesK()`, in order: 24 sprites of 16 sub-tiles (R224). -/
def State.spriteTiles (s : State) : List Tile :=
  (List.range 24).flatMap fun n => (List.range 16).map (s.spriteTile n)

/-! ## The foreground of variant K (R226) -/

/-- The blit of foreground cell `n` (R226). -/
def State.fgTile (g : Gfx) (s : State) (n : Nat) : Tile :=
  let q := s.cfg.geometry
  let code := s.fgram.read n
  let col : Int := (n % q.fgStride : Nat)
  let row : Int := (n / q.fgStride : Nat)
  { set := .fg
    code := code.toNat
    color := 2 * (g.colorCodes (code.extractLsb' 3 5).toFin).toNat + s.frontColor.toNat
    flipx := s.flipScreen
    flipy := s.flipScreen
    x := (q.fgTile : Int) * (if s.flipScreen then (q.fgVisCols : Int) - 1 - col else col)
    y := (q.fgTile : Int) * (if s.flipScreen then 31 - row else row) }

/-- The blits of `DrawForegroundK()` (R226). -/
def State.fgTiles (g : Gfx) (s : State) : List Tile := 
  (List.range s.cfg.geometry.fgSize).map (s.fgTile g)

/-! ## The objects of variant S (R228) -/

/-- The default of `S_OBJ`, which the machine does not assume (R228). -/
def sObjDefault (q : Geometry) (x code y bank : Byte) (flip : Bool) : Option ObjBlit :=
  let w : Int := (q.fbW : Int) - q.sprTile
  let h : Int := (q.fbH : Int) - q.sprTile
  some
    { x := if flip then w - x.toNat else x.toNat
      y := if flip then h - y.toNat else y.toNat
      tile := code.toNat + 256 * bank.toNat
      color := 0
      flipx := flip
      flipy := flip }

/-- The blit of object `i`, if `S_OBJ` gives one (R228). -/
def State.objTile (g : Gfx) (s : State) (i : Nat) : Option Tile :=
  (g.sObj (s.objram.read (4 * i)) (s.objram.read (4 * i + 1)) (s.objram.read (4 * i + 2))
    (s.objram.read (4 * i + 3)) s.flipScreen).map fun o => ⟨.spr, o.tile, o.color, o.flipx, o.flipy, o.x, o.y⟩

/-- The blits of `DrawObjectsS()`, in order (R228). -/
def State.objTiles (g : Gfx) (s : State) : List Tile :=
  (List.range (s.cfg.geometry.objSize / 4)).filterMap (s.objTile g)

/-! ## The frame operation (R218, R219) -/

/-- The blits laid over the scrolled background, in order: sprites then foreground in variant K, objects in
variant S (R218 steps 5 and 6). -/
def State.overlay (g : Gfx) (s : State) : List Tile :=
  match s.cfg.variant with
  | .k => s.spriteTiles ++ s.fgTiles g
  | .s => s.objTiles g

/-- The frame buffer composed from a drawn background (R218 steps 4 to 6). -/
def State.composeFrame (g : Gfx) (s : State) : Bitmap :=
  let q := s.cfg.geometry
  let d := s.scrollOffset g
  blitAll q g q.clip .pen (scrollCopy q s.tmp s.fb d.1 d.2) (s.overlay g)

/-- `BlankFrame()` (R219). -/
def State.blankFrame (s : State) : State :=
  { s with fb := s.fb.paint s.cfg.geometry.clip fun _ _ => s.cfg.geometry.fillIndex }

/-- Steps 3 to 6 of the frame operation: the background is redrawn, then the frame is composed (R218). -/
def State.drawFrame (g : Gfx) (s : State) : State :=
  { s.redrawBackground g with fb := (s.redrawBackground g).composeFrame g }

/-- `SCREEN_REFRESH full` (R218). -/
def State.screenRefresh (g : Gfx) (full : Bool) (s : State) : State :=
  if s.videoEnabled then (if full then s.markAllDirty else s).drawFrame g else s.blankFrame

/-- The colour shown at (`x`, `y`), for every index is one of the palette's (R215). -/
def State.shownColour (s : State) (x y : Nat) : Option Rgb := s.palette[s.fb.get x y]?

/-- `SCREEN_REFRESH full` (R218). -/
def execScreenRefresh (full : Bool) (s : State) : Host.Outcome State Fault Refusal :=
  s.perform (.screenRefresh full) (s.screenRefresh Config.gfx full)

end Machine

end Sys2Proof
end

