-- ==== Sys2Proof/Machine/Mcu.lean ====
section
/-! DEFINITION. The Protection-MCU GPIO protocol state machine, the unit the spec is named after
(43_protection_mcu R156 to R172). -/
namespace Sys2Proof.Machine

open Sys2Proof

/-! ## Edges of Port B (R160) -/

/-- `fall(b)`: the bit is an output, was 1 and is written 0. -/
def fallEdge (prev new ddr : Byte) (b : Nat) : Bool := ddr.getLsbD b && prev.getLsbD b && !new.getLsbD b

/-- `rise(b)`: the bit is an output, was 0 and is written 1. -/
def riseEdge (prev new ddr : Byte) (b : Nat) : Bool := ddr.getLsbD b && !prev.getLsbD b && new.getLsbD b

/-- The edges the block acts on. -/
structure EdgeSet where
  /-- Bit 0 falls (R162). -/
  deliver : Bool
  /-- Bit 1 rises (R163). -/
  addrLow : Bool
  /-- Bit 2 rises (R164). -/
  addrHigh : Bool
  /-- Bit 4 falls (R166). -/
  access : Bool
  /-- Bit 5 falls (R168). -/
  irq : Bool
deriving DecidableEq, Repr

/-- The source's pure helper `detect_edges(prev, next, ddr) -> EdgeSet` (R160). -/
def detectEdges (prev new ddr : Byte) : EdgeSet where
  deliver := fallEdge prev new ddr 0
  addrLow := riseEdge prev new ddr 1
  addrHigh := riseEdge prev new ddr 2
  access := fallEdge prev new ddr 4
  irq := fallEdge prev new ddr 5

/-! ## The actions -/

/-- `DeliverAction()` (R162): a copy, `latch` keeps its value. -/
def State.deliver (s : State) : State := { s with portAIn := s.latch }

/-- `AddrLowAction()` (R163): bits 15:8 are kept. -/
def State.loadAddrLow (s : State) : State :=
  { s with address := (s.address &&& 0xFF00) ||| s.portAOut.setWidth 16 }

/-- `AddrHighAction()` (R164): bits 7:0 are kept, bits 15:12 become 0. -/
def State.loadAddrHigh (s : State) : State :=
  { s with address := (s.address &&& 0x00FF) ||| ((s.portAOut &&& 0x0F).setWidth 16 <<< 8) }

/-- `address` selects the input-port window: bit 11 clear (R71, R166). -/
def inInputWindow (address : BitVec 16) : Bool := address &&& 0x0800 = 0

/-- `address` selects the `sharedram2` window: bits 11 and 10 set (R71, R166). -/
def inSharedWindow (address : BitVec 16) : Bool := address &&& 0x0C00 = 0x0C00

/-- The offset in `sharedram2` a proxied access reaches: `address & 0x03FF` (R166). -/
def proxyOffset (address : BitVec 16) : Nat := (address &&& 0x03FF).toNat

/-- `DIAG_MCU_UNMAPPED_READ` (R247). -/
def diagUnmappedRead : Byte := 0x01

/-- `DIAG_MCU_UNMAPPED_WRITE` (R247). -/
def diagUnmappedWrite : Byte := 0x02

/-- `ProxyAccess(1)`, the read (R166). -/
def State.proxyRead (s : State) : State :=
  if inInputWindow s.address then { s with latch := s.inputPort (portIndex s.address) }
  else if inSharedWindow s.address then { s with latch := s.sharedram2.read (proxyOffset s.address) }
  else s.emit (.diag diagUnmappedRead s.address)

/-- `ProxyAccess(0)`, the write (R166): the input-port window cannot be written (D10). -/
def State.proxyWrite (s : State) : State :=
  if inSharedWindow s.address then
    { s with sharedram2 := s.sharedram2.write (proxyOffset s.address) s.portAOut }
  else s.emit (.diag diagUnmappedWrite s.address)

/-- `ProxyAccess(dir)`: 1 reads, 0 writes (R165, R166). -/
def State.proxyAccess (s : State) (dir : Bool) : State := if dir then s.proxyRead else s.proxyWrite

/-- Perform an action if its edge is there. -/
def State.onEdge (s : State) (edge : Bool) (action : State → State) : State := if edge then action s else s

/-- The five actions in ascending bit order, each seeing the state the earlier ones left (R161 steps 1 to 5);
`dir` is bit 3 of the byte being written (R165). -/
def State.edgeActions (s : State) (e : EdgeSet) (dir : Bool) : State :=
  ((((s.onEdge e.deliver State.deliver).onEdge e.addrLow State.loadAddrLow).onEdge e.addrHigh
    State.loadAddrHigh).onEdge e.access (State.proxyAccess · dir)).onEdge e.irq State.raiseMainIrq

/-! ## The operations -/

/-- `MCU_PA_RD` (R156). -/
def execMcuPaRd (s : State) : Host.Outcome State Fault Refusal :=
  s.perform .mcuPaRd (s.reply (portRead s.portAOut s.portAIn s.ddrA))

/-- `MCU_PA_WR v` (R157). -/
def execMcuPaWr (v : Byte) (s : State) : Host.Outcome State Fault Refusal :=
  s.perform (.mcuPaWr v) { s with portAOut := v }

/-- `MCU_DDRA_WR v` (R158). -/
def execMcuDdraWr (v : Byte) (s : State) : Host.Outcome State Fault Refusal :=
  s.perform (.mcuDdraWr v) { s with ddrA := v }

/-- `MCU_PB_RD` (R159). -/
def execMcuPbRd (s : State) : Host.Outcome State Fault Refusal :=
  s.perform .mcuPbRd (s.reply (portRead s.portBOut s.cfg.portBIn s.ddrB))

/-- `MCU_PB_WR v` (R161): the edges are computed first, `port_b_out` is updated last (R170). -/
def execMcuPbWr (v : Byte) (s : State) : Host.Outcome State Fault Refusal :=
  s.perform (.mcuPbWr v)
    { s.edgeActions (detectEdges s.portBOut v s.ddrB) (v.getLsbD 3) with portBOut := v }

/-- `MCU_DDRB_WR v` (R171): no edge, no action. -/
def execMcuDdrbWr (v : Byte) (s : State) : Host.Outcome State Fault Refusal :=
  s.perform (.mcuDdrbWr v) { s with ddrB := v }

/-- `MCU_IRQ_TICK` (R172): every tick inverts the MCU's interrupt line. -/
def execMcuIrqTick (s : State) : Host.Outcome State Fault Refusal :=
  s.perform .mcuIrqTick ({ s with mcuIrqLine := !s.mcuIrqLine }.emit (.irqMcu !s.mcuIrqLine))

end Sys2Proof.Machine
end

