-- ==== Sys2Proof/Machine/Misc.lean ====
section
/-! DEFINITION. The meanings of the constant read, the no-effect write, the acknowledge of the main CPU's interrupt
and the input ports' setter (46_misc_registers R241, R242; 60_exceptions R253, R258). -/
namespace Sys2Proof.Machine

open Sys2Proof

/-- `FAKE_RD` (R241): the source's constant, preserved. -/
def execFakeRd (s : State) : Host.Outcome State Fault Refusal :=
  s.perform .fakeRd (s.reply 0xBF)

/-- `NOP_WR a, v` (R242): accepted, no state change. -/
def execNopWr (off : Offset) (v : Byte) (s : State) : Host.Outcome State Fault Refusal :=
  s.perform (.nopWr off v) s

/-- `MAIN_IRQ_ACK` (R253). -/
def execMainIrqAck (s : State) : Host.Outcome State Fault Refusal :=
  s.perform .mainIrqAck s.ackMainIrq

/-- `ENV_INPORT idx, v` (R258). -/
def execEnvInport (idx : Offset) (v : Byte) (s : State) : Host.Outcome State Fault Refusal :=
  s.perform (.envInport idx v) { s with inp := s.inp.setIfInBounds idx.toNat v }

end Sys2Proof.Machine
end

