-- ==== Sys2Proof/Machine/Shared.lean ====
section
/-! DEFINITION. The meanings of the Shared-Memory Region's operations (40_shared_memory R121 to R126). -/
namespace Sys2Proof.Machine

open Sys2Proof

/-- `SR1_RD off` (R121). -/
def execSr1Rd (off : Offset) (s : State) : Host.Outcome State Fault Refusal :=
  s.perform (.sr1Rd off) (s.reply (s.sharedram1.read off.toNat))

/-- `SR1_WR off, v` (R122). -/
def execSr1Wr (off : Offset) (v : Byte) (s : State) : Host.Outcome State Fault Refusal :=
  s.perform (.sr1Wr off v) { s with sharedram1 := s.sharedram1.write off.toNat v }

/-- `SR2_RD off` (R123): a CPU reaches the first `SR2_CPU_WINDOW` bytes. -/
def execSr2Rd (off : Offset) (s : State) : Host.Outcome State Fault Refusal :=
  s.perform (.sr2Rd off) (s.reply (s.sharedram2.read off.toNat))

/-- `SR2_WR off, v` (R124). -/
def execSr2Wr (off : Offset) (v : Byte) (s : State) : Host.Outcome State Fault Refusal :=
  s.perform (.sr2Wr off v) { s with sharedram2 := s.sharedram2.write off.toNat v }

/-- `SHR_RD off` (R125). -/
def execShrRd (off : Offset) (s : State) : Host.Outcome State Fault Refusal :=
  s.perform (.shrRd off) (s.reply (s.sharedRam.read off.toNat))

/-- `SHR_WR off, v` (R126). -/
def execShrWr (off : Offset) (v : Byte) (s : State) : Host.Outcome State Fault Refusal :=
  s.perform (.shrWr off v) { s with sharedRam := s.sharedRam.write off.toNat v }

end Sys2Proof.Machine
end

