-- ==== Sys2Proof/Machine/Sound.lean ====
section
/-! DEFINITION. The meanings of the Sound-Command Latch and NMI Scheduler's operations (42_sound_latch R141 to
R146). -/
namespace Sys2Proof.Machine

open Sys2Proof

/-- `SNDCMD_WR v` (R141): the mailbox, then the NMI-assert event within the same operation. -/
def execSndcmdWr (v : Byte) (s : State) : Host.Outcome State Fault Refusal :=
  s.perform (.sndcmdWr v) { s with sndCmd := v }.nmiAssert

/-- `SNDLATCH_RD` (R143): the read clears nothing. -/
def execSndlatchRd (s : State) : Host.Outcome State Fault Refusal :=
  s.perform .sndlatchRd (s.reply s.sndCmd)

/-- `NMI_DIS` (R144): it must not clear `nmi_pending`. -/
def execNmiDis (ignored : Byte) (s : State) : Host.Outcome State Fault Refusal :=
  s.perform (.nmiDis ignored) { s with nmiEnabled := false }

/-- `NMI_EN` (R145): a pending NMI is asserted at once and cleared. -/
def execNmiEn (ignored : Byte) (s : State) : Host.Outcome State Fault Refusal :=
  s.perform (.nmiEn ignored)
    (if s.nmiPending then { s.emit .nmiSound with nmiEnabled := true, nmiPending := false }
     else { s with nmiEnabled := true })

/-- `NMITRIG_WR` (R146): a pulse on the second CPU, with no latch and no enable. -/
def execNmitrigWr (ignored : Byte) (s : State) : Host.Outcome State Fault Refusal :=
  s.perform (.nmitrigWr ignored) (s.emit .nmiSub)

end Sys2Proof.Machine
end

