-- ==== Sys2Proof/Machine/Video.lean ====
section
/-! DEFINITION. The meanings of the operations on the video RAMs and the video registers
(44_video_ram_and_registers R186 to R204). -/
namespace Sys2Proof.Machine

open Sys2Proof

/-- `VRAM_RD off` (R186). -/
def execVramRd (off : Offset) (s : State) : Host.Outcome State Fault Refusal :=
  s.perform (.vramRd off) (s.reply (s.vram.read off.toNat))

/-- `VRAM_WR off, v` (R187): the cell is marked even when the byte does not change. -/
def execVramWr (off : Offset) (v : Byte) (s : State) : Host.Outcome State Fault Refusal :=
  s.perform (.vramWr off v) ({ s with vram := s.vram.write off.toNat v }.markCell off.toNat)

/-- `CRAM_RD off` (R188). -/
def execCramRd (off : Offset) (s : State) : Host.Outcome State Fault Refusal :=
  s.perform (.cramRd off) (s.reply (s.cram.read off.toNat))

/-- `CRAM_WR off, v` (R189): the same dirty bit as `VRAM_WR` at that offset. -/
def execCramWr (off : Offset) (v : Byte) (s : State) : Host.Outcome State Fault Refusal :=
  s.perform (.cramWr off v) ({ s with cram := s.cram.write off.toNat v }.markCell off.toNat)

/-- `OBJ_RD off` (R190). -/
def execObjRd (off : Offset) (s : State) : Host.Outcome State Fault Refusal :=
  s.perform (.objRd off) (s.reply (s.objram.read off.toNat))

/-- `OBJ_WR off, v` (R191). -/
def execObjWr (off : Offset) (v : Byte) (s : State) : Host.Outcome State Fault Refusal :=
  s.perform (.objWr off v) { s with objram := s.objram.write off.toNat v }

/-- `OBJX_RD off` (R192): the nibble, zero-extended. -/
def execObjxRd (off : Offset) (s : State) : Host.Outcome State Fault Refusal :=
  s.perform (.objxRd off) (s.reply ((s.objxram.read off.toNat).setWidth 8))

/-- `OBJX_WR off, v` (R193): `v[7:4]` are dropped. -/
def execObjxWr (off : Offset) (v : Byte) (s : State) : Host.Outcome State Fault Refusal :=
  s.perform (.objxWr off v) { s with objxram := s.objxram.write off.toNat (v.setWidth 4) }

/-- `FG_RD off` (R194). -/
def execFgRd (off : Offset) (s : State) : Host.Outcome State Fault Refusal :=
  s.perform (.fgRd off) (s.reply (s.fgram.read off.toNat))

/-- `FG_WR off, v` (R195). -/
def execFgWr (off : Offset) (v : Byte) (s : State) : Host.Outcome State Fault Refusal :=
  s.perform (.fgWr off v) { s with fgram := s.fgram.write off.toNat v }

/-- `SCRX_WR v` (R198). -/
def execScrxWr (v : Byte) (s : State) : Host.Outcome State Fault Refusal :=
  s.perform (.scrxWr v) { s with backScrollX := v }

/-- `SCRYLO_WR v` (R199). -/
def execScryloWr (v : Byte) (s : State) : Host.Outcome State Fault Refusal :=
  s.perform (.scryloWr v) { s with backScrollYLo := v }

/-- `SCRYHI_WR v` (R200): bit 0 of the data byte. -/
def execScryhiWr (v : Byte) (s : State) : Host.Outcome State Fault Refusal :=
  s.perform (.scryhiWr v) { s with backScrollYHi := v.setWidth 1 }

/-- `PALBANK_WR v` (R201): a change marks every cell. -/
def execPalbankWr (v : Byte) (s : State) : Host.Outcome State Fault Refusal :=
  s.perform (.palbankWr v)
    { (if v.setWidth 1 ≠ s.paletteBank then s.markAllDirty else s) with paletteBank := v.setWidth 1 }

/-- `FRONTCOL_WR v` (R202). -/
def execFrontcolWr (v : Byte) (s : State) : Host.Outcome State Fault Refusal :=
  s.perform (.frontcolWr v) { s with frontColor := v.setWidth 1 }

/-- `FLIP_WR v` (R204): a change marks every cell. -/
def execFlipWr (v : Byte) (s : State) : Host.Outcome State Fault Refusal :=
  s.perform (.flipWr v) (s.setFlip (v.getLsbD 0))

end Sys2Proof.Machine
end

