-- ==== Sys2Proof/Machine/Dispatch.lean ====
section
/-! DEFINITION. The meaning of every operation, one arm per constructor of `Instr`. -/
namespace Sys2Proof.Machine

open Sys2Proof

-- One direct call per operation, in the order of the opcode table (30_encoding R100).
def exec (i : Instr) (s : State) : Host.Outcome State Fault Refusal :=
  match i with
  | .sr1Rd off => Sys2Proof.Machine.execSr1Rd off s
  | .sr1Wr off v => Sys2Proof.Machine.execSr1Wr off v s
  | .sr2Rd off => Sys2Proof.Machine.execSr2Rd off s
  | .sr2Wr off v => Sys2Proof.Machine.execSr2Wr off v s
  | .shrRd off => Sys2Proof.Machine.execShrRd off s
  | .shrWr off v => Sys2Proof.Machine.execShrWr off v s
  | .bankWr v => Sys2Proof.Machine.execBankWr v s
  | .vidctrlWr v => Sys2Proof.Machine.execVidctrlWr v s
  | .romwinRd off => Sys2Proof.Machine.execRomwinRd off s
  | .sndcmdWr v => Sys2Proof.Machine.execSndcmdWr v s
  | .sndlatchRd => Sys2Proof.Machine.execSndlatchRd s
  | .nmiDis ignored => Sys2Proof.Machine.execNmiDis ignored s
  | .nmiEn ignored => Sys2Proof.Machine.execNmiEn ignored s
  | .nmitrigWr ignored => Sys2Proof.Machine.execNmitrigWr ignored s
  | .mcuPaRd => Sys2Proof.Machine.execMcuPaRd s
  | .mcuPaWr v => Sys2Proof.Machine.execMcuPaWr v s
  | .mcuDdraWr v => Sys2Proof.Machine.execMcuDdraWr v s
  | .mcuPbRd => Sys2Proof.Machine.execMcuPbRd s
  | .mcuPbWr v => Sys2Proof.Machine.execMcuPbWr v s
  | .mcuDdrbWr v => Sys2Proof.Machine.execMcuDdrbWr v s
  | .mcuIrqTick => Sys2Proof.Machine.execMcuIrqTick s
  | .vramRd off => Sys2Proof.Machine.execVramRd off s
  | .vramWr off v => Sys2Proof.Machine.execVramWr off v s
  | .cramRd off => Sys2Proof.Machine.execCramRd off s
  | .cramWr off v => Sys2Proof.Machine.execCramWr off v s
  | .objRd off => Sys2Proof.Machine.execObjRd off s
  | .objWr off v => Sys2Proof.Machine.execObjWr off v s
  | .objxRd off => Sys2Proof.Machine.execObjxRd off s
  | .objxWr off v => Sys2Proof.Machine.execObjxWr off v s
  | .fgRd off => Sys2Proof.Machine.execFgRd off s
  | .fgWr off v => Sys2Proof.Machine.execFgWr off v s
  | .scrxWr v => Sys2Proof.Machine.execScrxWr v s
  | .scryloWr v => Sys2Proof.Machine.execScryloWr v s
  | .scryhiWr v => Sys2Proof.Machine.execScryhiWr v s
  | .palbankWr v => Sys2Proof.Machine.execPalbankWr v s
  | .frontcolWr v => Sys2Proof.Machine.execFrontcolWr v s
  | .flipWr v => Sys2Proof.Machine.execFlipWr v s
  | .screenRefresh full => Sys2Proof.Machine.execScreenRefresh full s
  | .fakeRd => Sys2Proof.Machine.execFakeRd s
  | .nopWr off v => Sys2Proof.Machine.execNopWr off v s
  | .mainIrqAck => Sys2Proof.Machine.execMainIrqAck s
  | .envInport idx v => Sys2Proof.Machine.execEnvInport idx v s

end Sys2Proof.Machine
end

