-- ==== Sys2Proof/Decode.lean ====
section
/-! DEFINITION. Reading a transaction word and writing one (30_encoding R91 to R105). The decoder is total on any
word and on any bytes, and refuses by name; the encoder writes the word of every operation. -/
namespace Sys2Proof

/-! ## The fields of a word (R91) -/

/-- `OP`, bits 31 to 24. -/
def opField (w : Word) : Byte := w.extractLsb' 24 8

/-- `A`, bits 23 to 8. -/
def aField (w : Word) : Offset := w.extractLsb' 8 16

/-- `D`, bits 7 to 0. -/
def dField (w : Word) : Byte := w.extractLsb' 0 8

/-- The word with the given fields: `OP ++ A ++ D`, most significant first. -/
def packWord (op : Byte) (a : Offset) (d : Byte) : Word := op ++ a ++ d

/-! ## The six formats (R92). A field that carries no value must be zero, except where the format ignores it. -/

/-- `F_AD`: offset and data. -/
def readAD (_ : Byte) (a : Offset) (d : Byte) (k : Offset → Byte → Instr) : Except DecodeError Instr := .ok (k a d)

/-- `F_A`: offset, and `D` must be 0. -/
def readA (op : Byte) (a : Offset) (d : Byte) (k : Offset → Instr) : Except DecodeError Instr :=
  if d = 0 then .ok (k a) else .error (.nonzeroField op)

/-- `F_D`: data, and `A` must be 0. -/
def readD (op : Byte) (a : Offset) (d : Byte) (k : Byte → Instr) : Except DecodeError Instr :=
  if a = 0 then .ok (k d) else .error (.nonzeroField op)

/-- `F_0`: both must be 0. -/
def readZ (op : Byte) (a : Offset) (d : Byte) (i : Instr) : Except DecodeError Instr :=
  if a = 0 ∧ d = 0 then .ok i else .error (.nonzeroField op)

/-- `F_X`: `A` must be 0 and any `D` is accepted; the operation ignores it. -/
def readX (op : Byte) (a : Offset) (d : Byte) (k : Byte → Instr) : Except DecodeError Instr :=
  if a = 0 then .ok (k d) else .error (.nonzeroField op)

/-- `F_B`: `A` and `D[7:1]` must be 0, `D[0]` is the flag. -/
def readB (op : Byte) (a : Offset) (d : Byte) (k : Bool → Instr) : Except DecodeError Instr :=
  if a = 0 ∧ d.extractLsb' 1 7 = 0 then .ok (k (d.getLsbD 0)) else .error (.nonzeroField op)

/-! ## The opcode map (R100) -/

/-- The operation with the given fields; every `OP` that is not listed is reserved (R105 (a)). -/
def decodeFields (op : Byte) (a : Offset) (d : Byte) : Except DecodeError Instr :=
  match op.toNat with
  | 0x00 => readA op a d .sr1Rd
  | 0x01 => readAD op a d .sr1Wr
  | 0x02 => readA op a d .sr2Rd
  | 0x03 => readAD op a d .sr2Wr
  | 0x04 => readA op a d .shrRd
  | 0x05 => readAD op a d .shrWr
  | 0x10 => readD op a d .bankWr
  | 0x11 => readD op a d .vidctrlWr
  | 0x12 => readA op a d .romwinRd
  | 0x20 => readD op a d .sndcmdWr
  | 0x21 => readZ op a d .sndlatchRd
  | 0x22 => readX op a d .nmiDis
  | 0x23 => readX op a d .nmiEn
  | 0x24 => readX op a d .nmitrigWr
  | 0x30 => readZ op a d .mcuPaRd
  | 0x31 => readD op a d .mcuPaWr
  | 0x32 => readD op a d .mcuDdraWr
  | 0x33 => readZ op a d .mcuPbRd
  | 0x34 => readD op a d .mcuPbWr
  | 0x35 => readD op a d .mcuDdrbWr
  | 0x36 => readZ op a d .mcuIrqTick
  | 0x40 => readA op a d .vramRd
  | 0x41 => readAD op a d .vramWr
  | 0x42 => readA op a d .cramRd
  | 0x43 => readAD op a d .cramWr
  | 0x44 => readA op a d .objRd
  | 0x45 => readAD op a d .objWr
  | 0x46 => readA op a d .objxRd
  | 0x47 => readAD op a d .objxWr
  | 0x48 => readA op a d .fgRd
  | 0x49 => readAD op a d .fgWr
  | 0x4A => readD op a d .scrxWr
  | 0x4B => readD op a d .scryloWr
  | 0x4C => readD op a d .scryhiWr
  | 0x4D => readD op a d .palbankWr
  | 0x4E => readD op a d .frontcolWr
  | 0x4F => readD op a d .flipWr
  | 0x50 => readB op a d .screenRefresh
  | 0x60 => readZ op a d .fakeRd
  | 0x61 => readAD op a d .nopWr
  | 0x70 => readZ op a d .mainIrqAck
  | 0x71 => readAD op a d .envInport
  | _ => .error (.unknownOpcode op)

/-- The operation a word stands for (R91, R92, R100). -/
def decode (w : Word) : Except DecodeError Instr := decodeFields (opField w) (aField w) (dField w)

/-- The word of four serialised bytes, most significant byte first (R91, D38). -/
def wordOfBytes (b3 b2 b1 b0 : Byte) : Word := b3 ++ b2 ++ b1 ++ b0

/-- A word serialised: `OP`, `A[15:8]`, `A[7:0]`, `D` (R91, D38). -/
def bytesOfWord (w : Word) : List Byte :=
  [w.extractLsb' 24 8, w.extractLsb' 16 8, w.extractLsb' 8 8, w.extractLsb' 0 8]

/-- The operation at the front of a string of bytes, and the rest of it; all words have the same length (R91). -/
def decodeBytes : List Byte → Except DecodeError (Instr × List Byte)
  | b3 :: b2 :: b1 :: b0 :: rest =>
    match decode (wordOfBytes b3 b2 b1 b0) with
    | .ok i => .ok (i, rest)
    | .error e => .error e
  | _ => .error .truncated

/-- The operation the decoder reads from an instruction whose bits are `w`, numbered as the opcode table numbers them
(bit 0 the least significant bit of the one 32-bit word); the word is laid out in its byte order and given to the
decoder. -/
def decodeTableWord (nbits w : Nat) : Option Instr :=
  match decodeBytes (bytesOfWord (BitVec.ofNat 32 (w % 2 ^ nbits))) with
  | .ok (i, _) => some i
  | .error _ => none

/-! ## The encoder -/

/-- The word of an operation (R91, R92, R100). -/
def encode : Instr → Word
  | .sr1Rd off => packWord 0x00 off 0
  | .sr1Wr off v => packWord 0x01 off v
  | .sr2Rd off => packWord 0x02 off 0
  | .sr2Wr off v => packWord 0x03 off v
  | .shrRd off => packWord 0x04 off 0
  | .shrWr off v => packWord 0x05 off v
  | .bankWr v => packWord 0x10 0 v
  | .vidctrlWr v => packWord 0x11 0 v
  | .romwinRd off => packWord 0x12 off 0
  | .sndcmdWr v => packWord 0x20 0 v
  | .sndlatchRd => packWord 0x21 0 0
  | .nmiDis ignored => packWord 0x22 0 ignored
  | .nmiEn ignored => packWord 0x23 0 ignored
  | .nmitrigWr ignored => packWord 0x24 0 ignored
  | .mcuPaRd => packWord 0x30 0 0
  | .mcuPaWr v => packWord 0x31 0 v
  | .mcuDdraWr v => packWord 0x32 0 v
  | .mcuPbRd => packWord 0x33 0 0
  | .mcuPbWr v => packWord 0x34 0 v
  | .mcuDdrbWr v => packWord 0x35 0 v
  | .mcuIrqTick => packWord 0x36 0 0
  | .vramRd off => packWord 0x40 off 0
  | .vramWr off v => packWord 0x41 off v
  | .cramRd off => packWord 0x42 off 0
  | .cramWr off v => packWord 0x43 off v
  | .objRd off => packWord 0x44 off 0
  | .objWr off v => packWord 0x45 off v
  | .objxRd off => packWord 0x46 off 0
  | .objxWr off v => packWord 0x47 off v
  | .fgRd off => packWord 0x48 off 0
  | .fgWr off v => packWord 0x49 off v
  | .scrxWr v => packWord 0x4A 0 v
  | .scryloWr v => packWord 0x4B 0 v
  | .scryhiWr v => packWord 0x4C 0 v
  | .palbankWr v => packWord 0x4D 0 v
  | .frontcolWr v => packWord 0x4E 0 v
  | .flipWr v => packWord 0x4F 0 v
  | .screenRefresh full => packWord 0x50 0 (if full then 1 else 0)
  | .fakeRd => packWord 0x60 0 0
  | .nopWr off v => packWord 0x61 off v
  | .mainIrqAck => packWord 0x70 0 0
  | .envInport idx v => packWord 0x71 idx v

/-- The four serialised bytes of an operation (R91). -/
def encodeBytes (i : Instr) : List Byte := bytesOfWord (encode i)

/-! ## The opcode table as rows (R100, R101), beside the decoder and not used by it -/

/-- A row: the word matches when `W & mask == match` (R92). -/
structure OpcodeRow where
  mnemonic : String
  pattern : Word
  mask : Word
deriving DecidableEq, Repr

/-- The masks of the formats (R92). -/
def maskAD : Word := 0xFF000000
def maskA : Word := 0xFF0000FF
def maskD : Word := 0xFFFFFF00
def maskZ : Word := 0xFFFFFFFF
def maskX : Word := 0xFFFFFF00
def maskB : Word := 0xFFFFFFFE

/-- The rows of spec/opcode_table.json, in its order. -/
def opcodeTable : List OpcodeRow := [
  ⟨"SR1_RD", 0x00000000, maskA⟩, ⟨"SR1_WR", 0x01000000, maskAD⟩,
  ⟨"SR2_RD", 0x02000000, maskA⟩, ⟨"SR2_WR", 0x03000000, maskAD⟩,
  ⟨"SHR_RD", 0x04000000, maskA⟩, ⟨"SHR_WR", 0x05000000, maskAD⟩,
  ⟨"BANK_WR", 0x10000000, maskD⟩, ⟨"VIDCTRL_WR", 0x11000000, maskD⟩,
  ⟨"ROMWIN_RD", 0x12000000, maskA⟩,
  ⟨"SNDCMD_WR", 0x20000000, maskD⟩, ⟨"SNDLATCH_RD", 0x21000000, maskZ⟩,
  ⟨"NMI_DIS", 0x22000000, maskX⟩, ⟨"NMI_EN", 0x23000000, maskX⟩, ⟨"NMITRIG_WR", 0x24000000, maskX⟩,
  ⟨"MCU_PA_RD", 0x30000000, maskZ⟩, ⟨"MCU_PA_WR", 0x31000000, maskD⟩,
  ⟨"MCU_DDRA_WR", 0x32000000, maskD⟩, ⟨"MCU_PB_RD", 0x33000000, maskZ⟩,
  ⟨"MCU_PB_WR", 0x34000000, maskD⟩, ⟨"MCU_DDRB_WR", 0x35000000, maskD⟩,
  ⟨"MCU_IRQ_TICK", 0x36000000, maskZ⟩,
  ⟨"VRAM_RD", 0x40000000, maskA⟩, ⟨"VRAM_WR", 0x41000000, maskAD⟩,
  ⟨"CRAM_RD", 0x42000000, maskA⟩, ⟨"CRAM_WR", 0x43000000, maskAD⟩,
  ⟨"OBJ_RD", 0x44000000, maskA⟩, ⟨"OBJ_WR", 0x45000000, maskAD⟩,
  ⟨"OBJX_RD", 0x46000000, maskA⟩, ⟨"OBJX_WR", 0x47000000, maskAD⟩,
  ⟨"FG_RD", 0x48000000, maskA⟩, ⟨"FG_WR", 0x49000000, maskAD⟩,
  ⟨"SCRX_WR", 0x4A000000, maskD⟩, ⟨"SCRYLO_WR", 0x4B000000, maskD⟩,
  ⟨"SCRYHI_WR", 0x4C000000, maskD⟩, ⟨"PALBANK_WR", 0x4D000000, maskD⟩,
  ⟨"FRONTCOL_WR", 0x4E000000, maskD⟩, ⟨"FLIP_WR", 0x4F000000, maskD⟩,
  ⟨"SCREEN_REFRESH", 0x50000000, maskB⟩,
  ⟨"FAKE_RD", 0x60000000, maskZ⟩, ⟨"NOP_WR", 0x61000000, maskAD⟩,
  ⟨"MAIN_IRQ_ACK", 0x70000000, maskZ⟩, ⟨"ENV_INPORT", 0x71000000, maskAD⟩]

/-- The row's name, letter for letter (R100). -/
def Instr.mnemonic : Instr → String
  | .sr1Rd _ => "SR1_RD"
  | .sr1Wr _ _ => "SR1_WR"
  | .sr2Rd _ => "SR2_RD"
  | .sr2Wr _ _ => "SR2_WR"
  | .shrRd _ => "SHR_RD"
  | .shrWr _ _ => "SHR_WR"
  | .bankWr _ => "BANK_WR"
  | .vidctrlWr _ => "VIDCTRL_WR"
  | .romwinRd _ => "ROMWIN_RD"
  | .sndcmdWr _ => "SNDCMD_WR"
  | .sndlatchRd => "SNDLATCH_RD"
  | .nmiDis _ => "NMI_DIS"
  | .nmiEn _ => "NMI_EN"
  | .nmitrigWr _ => "NMITRIG_WR"
  | .mcuPaRd => "MCU_PA_RD"
  | .mcuPaWr _ => "MCU_PA_WR"
  | .mcuDdraWr _ => "MCU_DDRA_WR"
  | .mcuPbRd => "MCU_PB_RD"
  | .mcuPbWr _ => "MCU_PB_WR"
  | .mcuDdrbWr _ => "MCU_DDRB_WR"
  | .mcuIrqTick => "MCU_IRQ_TICK"
  | .vramRd _ => "VRAM_RD"
  | .vramWr _ _ => "VRAM_WR"
  | .cramRd _ => "CRAM_RD"
  | .cramWr _ _ => "CRAM_WR"
  | .objRd _ => "OBJ_RD"
  | .objWr _ _ => "OBJ_WR"
  | .objxRd _ => "OBJX_RD"
  | .objxWr _ _ => "OBJX_WR"
  | .fgRd _ => "FG_RD"
  | .fgWr _ _ => "FG_WR"
  | .scrxWr _ => "SCRX_WR"
  | .scryloWr _ => "SCRYLO_WR"
  | .scryhiWr _ => "SCRYHI_WR"
  | .palbankWr _ => "PALBANK_WR"
  | .frontcolWr _ => "FRONTCOL_WR"
  | .flipWr _ => "FLIP_WR"
  | .screenRefresh _ => "SCREEN_REFRESH"
  | .fakeRd => "FAKE_RD"
  | .nopWr _ _ => "NOP_WR"
  | .mainIrqAck => "MAIN_IRQ_ACK"
  | .envInport _ _ => "ENV_INPORT"

end Sys2Proof
end

