-- ==== Sys2Proof/Machine/Fetch.lean ====
section
/-! DEFINITION. Taking the next transaction from the script, and placing one at its front. The block fetches nothing
itself (10_state R28): the order of transactions is the external scheduler's (20_memory R76), and `script` holds it. -/
namespace Sys2Proof.Machine

open Sys2Proof

/-- The state in which a transaction is performed: it has left the script, its agent is the issuer, and nothing has
been returned yet (R15, R94). -/
def State.accept (s : State) (t : Transaction) (rest : List Transaction) : State :=
  { s with agent := t.agent, script := rest, ret := none }

/-- The first agent that may issue an operation (R262). -/
def firstIssuer (i : Instr) : Agent := i.issuers.headD .main

/-- A machine on which an operation exists: this one if it has it, else machine-init of the first board that has it
with the values of R9 and the default geometry (R9, R100; log 2). -/
def State.onBoardWith (s : State) (i : Instr) : State :=
  if i.existsOn s.cfg then s
  else
    match [Board.bublbobl, .bootleg, .tokio, .kyugo].find? fun b =>
        i.existsOn (Cfg.standard b s.cfg.hasMcu s.cfg.portBIn) with
    | some b => State.resetFor (Cfg.standard b s.cfg.hasMcu s.cfg.portBIn)
    | none => s

/-- A transaction placed where the step takes its next one. -/
def State.enqueue (s : State) (t : Transaction) : State := { s with script := t :: s.script }

end Sys2Proof.Machine
end

