-- ==== Sys2Proof/Machine/Step.lean ====
section
/-! DEFINITION. One step of the machine: the next transaction of the script is decoded and performed whole
(00_scope R16); with no transaction pending the block does nothing, for it does nothing on its own
(70_reset_and_hazards R282). -/
namespace Sys2Proof.Machine

open Sys2Proof

/-- One step. -/
def step (s : State) : Host.Outcome State Fault Refusal :=
  match s.script with
  | [] => .next s
  | t :: rest =>
    match decode t.word with
    | .ok i => exec i (s.accept t rest)
    | .error e => .refused (.badWord e)

/-- `s` with the word whose low `nbits` bits are `w` as its next transaction, issued by an agent that may issue it, on
a board that has the operation (log 2). -/
def State.withFetchWord (s : State) (nbits w : Nat) : State :=
  let word : Word := BitVec.ofNat 32 (w % 2 ^ nbits)
  match decode word with
  | .ok i => (s.onBoardWith i).enqueue ⟨firstIssuer i, word⟩
  | .error _ => s.enqueue ⟨.main, word⟩

end Sys2Proof.Machine
end

