-- ==== Sys2Proof/WellFormed.lean ====
section
/-! DEFINITION. A well-formed request: the operation exists on the board, the agent is wired to it and its offset is
in range (30_encoding R105 (c), (d), (e)). The words that are no operation at all are the decoder's to refuse
(R105 (a), (b)); every term of `Instr` has a word. -/
namespace Sys2Proof

/-- `i`, issued by `a` on the board `c`, is a request the spec gives a meaning (R105, R267). -/
def Instr.WellFormed (c : Cfg) (a : Agent) (i : Instr) : Bool :=
  i.existsOn c && i.issuers.contains a && i.inRange c

end Sys2Proof
end

