-- ==== Sys2Proof/Safety.lean ====
section
/-! DEFINITION. What counts as a safe run and a sound state, in the terms the statements use. -/
namespace Sys2Proof

namespace Machine

/-- Every transaction still to come is a request the spec gives a meaning (30_encoding R105, 60_exceptions R267). -/
def State.scriptAdmitted (s : State) : Prop :=
  ∀ t ∈ s.script, ∃ i, decode t.word = .ok i ∧ i.WellFormed s.cfg t.agent = true

/-- The run from `s` is never refused: every number of steps answers a next state (60_exceptions R245, R267). -/
def State.Safe (s : State) : Prop :=
  ∀ k, ∃ t, Sys2Proof.core.run k s = .next t

/-- The eight memory spaces are in canonical form. -/
structure State.MemoriesCanonical (s : State) : Prop where
  sharedram1 : s.sharedram1.wf
  sharedram2 : s.sharedram2.wf
  sharedRam : s.sharedRam.wf
  vram : s.vram.wf
  cram : s.cram.wf
  objram : s.objram.wf
  objxram : s.objxram.wf
  fgram : s.fgram.wf

/-- No space holds a cell beyond its size (20_memory R60). -/
structure State.MemoriesWithin (s : State) : Prop where
  sharedram1 : s.sharedram1.within s.cfg.sr1Size
  sharedram2 : s.sharedram2.within s.cfg.sr2Size
  sharedRam : s.sharedRam.within s.cfg.shrSize
  vram : s.vram.within s.cfg.geometry.vramSize
  cram : s.cram.within s.cfg.geometry.vramSize
  objram : s.objram.within s.cfg.geometry.objSize
  objxram : s.objxram.within s.cfg.geometry.objSize
  fgram : s.fgram.within s.cfg.geometry.fgSize

/-- The sound latch's invariant: `nmi_enabled` and `nmi_pending` are never both true (10_state R33). -/
def State.LatchSound (s : State) : Prop := ¬(s.nmiEnabled = true ∧ s.nmiPending = true)

/-- Bits 15:12 of `address` are 0: reset clears them, the low load keeps them and the high load clears them
(43_protection_mcu R163, R164). -/
def State.AddressTwelveBits (s : State) : Prop := s.address.toNat < 0x1000

/-- The dirty set is a set of cells, ascending, and in variant S a marked cell implies `repaint`
(10_state R43, 45_video_compositor R221). -/
structure State.DirtySound (s : State) : Prop where
  ascending : s.dirty.Pairwise (· < ·)
  cells : ∀ n ∈ s.dirty, n < s.cfg.geometry.vramSize
  repaint : s.cfg.variant = .s → s.dirty ≠ [] → s.repaint = true

/-- `palette` is the decode of the colour PROMs (10_state R44, 70_reset_and_hazards R281). -/
def State.PaletteDecoded (s : State) : Prop :=
  s.palette = decodePalette s.cfg.geometry.nColors Config.promR Config.promG Config.promB

/-- `tmp` and `fb` have the sizes of the geometry (45_video_compositor R211, R215). -/
structure State.BitmapsSized (s : State) : Prop where
  tmp : s.tmp.sized s.cfg.geometry.tmpW s.cfg.geometry.tmpH
  fb : s.fb.sized s.cfg.geometry.fbW s.cfg.geometry.fbH

/-- Every pixel of the bitmap is an index below `n`. -/
def Bitmap.Below (b : Bitmap) (n : Nat) : Prop := ∀ x y, b.get x y < n

/-- Every pixel of `tmp` and of `fb` is an index of the palette (45_video_compositor R214, R215). -/
structure State.PixelsInPalette (s : State) : Prop where
  tmp : s.tmp.Below s.cfg.geometry.nColors
  fb : s.fb.Below s.cfg.geometry.nColors

/-- The position of a bitmap is one of the tile's pixels. -/
def Tile.covers (q : Geometry) (t : Tile) (u v : Nat) : Bool :=
  t.x ≤ u ∧ (u : Int) < t.x + q.edge t.set ∧ t.y ≤ v ∧ (v : Int) < t.y + q.edge t.set

/-- The pen of the tile at a position of the bitmap it covers. -/
def Tile.penAt (q : Geometry) (g : Gfx) (t : Tile) (u v : Nat) : Nat :=
  t.pen q g ((u : Int) - t.x).toNat ((v : Int) - t.y).toNat

/-- The colour of the tile at a position of the bitmap it covers. -/
def Tile.colourAt (q : Geometry) (g : Gfx) (t : Tile) (u v : Nat) : Pixel :=
  q.colour g t.set t.color (t.penAt q g u v)

/-- The tile writes the position: it covers it, the clip holds it and its pen is not skipped. -/
def Tile.writes (q : Geometry) (g : Gfx) (clip : Clip) (mode : BlitMode) (t : Tile) (u v : Nat) : Bool :=
  t.covers q u v ∧ clip.holds u v ∧ ¬(mode = .pen ∧ t.penAt q g u v = q.transparentPen t.set)

/-- A bitmap shows a tile: each of its pixels has the colour a blit without transparency gives it. -/
def Tile.shownBy (q : Geometry) (g : Gfx) (t : Tile) (b : Bitmap) : Prop :=
  ∀ px py, px < q.edge t.set → py < q.edge t.set →
    b.get (t.x + px).toNat (t.y + py).toNat = q.colour g t.set t.color (t.pen q g px py)

/-- The dirty tracking is sound: a cell that is not marked is shown by `tmp` as the video RAMs, the palette bank and the
flip flag now describe it (10_state R43, R49; 20_memory R81). -/
def State.BackgroundCurrent (g : Gfx) (s : State) : Prop :=
  ∀ n, n < s.cfg.geometry.vramSize → n ∉ s.dirty → (s.bgTile n).shownBy s.cfg.geometry g s.tmp

/-- The invariant of the machine. -/
structure State.Inv (s : State) : Prop where
  configuration : s.cfg.Sound
  canonical : s.MemoriesCanonical
  within : s.MemoriesWithin
  latch : s.LatchSound
  address : s.AddressTwelveBits
  dirty : s.DirtySound
  palette : s.PaletteDecoded
  bitmaps : s.BitmapsSized
  pixels : s.PixelsInPalette

end Machine

end Sys2Proof
end

