-- ==== Sys2Proof/Certificates/Slice0/Obligations.lean ====
section
/-! DEFINITION. The statements for the provers. The vocabulary they are written in stands first, in `Sys2Proof.Claims`;
it names boards, parameters, agents, bounds and values as the spec does and calls the model only for what is stated of it. -/
namespace Sys2Proof.Claims

open Sys2Proof Sys2Proof.Machine

/-- What a rule of the spec says of one operation: its word, what it does when it is admitted, and that it is refused
when it is not (60_exceptions R245 (a), (c)). -/
def Operation (i : Instr) (w : Word) (admitted : State → Prop) (result : State → State → Prop) : Prop :=
  decode w = .ok i ∧
  (∀ s, admitted s → ∃ t, exec i s = .next t ∧ result s t) ∧
  (∀ s, ¬admitted s → ∃ r, exec i s = .refused r)

/-- The parameters of the machine are those the per-board table gives the board (R9). -/
abbrev OfBoard (s : State) (b : Board) : Prop := ∃ fitted, s.cfg.toBoardParams = BoardParams.standard b fitted

/-- `HAS_SR12` (R9). -/
abbrev HasSr12 (s : State) : Prop := s.cfg.hasSr12 = true

/-- `HAS_BANKING` (R9). -/
abbrev HasBanking (s : State) : Prop := s.cfg.hasBanking = true

/-- `HAS_SNDLATCH` (R9). -/
abbrev HasSndlatch (s : State) : Prop := s.cfg.hasSndlatch = true

/-- `HAS_MCU` (R9). -/
abbrev HasMcu (s : State) : Prop := s.cfg.hasMcu = true

/-- `VIDEO_VARIANT` is K (R9). -/
abbrev VariantK (s : State) : Prop := s.cfg.variant = .k

/-- The boards on which an operation exists by the tables of R9 and R100; `fitted` says whether `BOOTLEG` or `TOKIO` has
the MCU. -/
def OnBoard (b : Board) (fitted : Bool) : Instr → Prop
  | .sr1Rd _ | .sr1Wr _ _ | .sr2Rd _ | .sr2Wr _ _ | .bankWr _ | .romwinRd _ =>
    b = .bublbobl ∨ b = .bootleg ∨ b = .tokio
  | .shrRd _ | .shrWr _ _ | .objxRd _ | .objxWr _ _ | .fgRd _ | .fgWr _ _ | .palbankWr _ | .frontcolWr _ | .flipWr _ =>
    b = .kyugo
  | .vidctrlWr _ | .nmitrigWr _ | .fakeRd => b = .tokio
  | .mcuPaRd | .mcuPaWr _ | .mcuDdraWr _ | .mcuPbRd | .mcuPbWr _ | .mcuDdrbWr _ | .mcuIrqTick | .mainIrqAck =>
    b = .bublbobl ∨ ((b = .bootleg ∨ b = .tokio) ∧ fitted = true)
  | .sndcmdWr _ | .sndlatchRd | .nmiDis _ | .nmiEn _ | .vramRd _ | .vramWr _ _ | .cramRd _ | .cramWr _ _ | .objRd _
  | .objWr _ _ | .scrxWr _ | .scryloWr _ | .scryhiWr _ | .screenRefresh _ | .nopWr _ _ | .envInport _ _ => True

/-- The operation exists on board `b` (R9) and is refused on every other board. -/
def OnlyOn (i : Instr) (b : Board) : Prop :=
  ∀ s : State, (OfBoard s b → i.existsOn s.cfg = true) ∧ ∀ b', OfBoard s b' → b' ≠ b → ∃ r, exec i s = .refused r

/-- The issuer is a CPU with a view of shared RAM (R262). -/
abbrev FromCpu (s : State) : Prop := s.agent = .main ∨ s.agent = .sub

/-- `VRAM_SIZE` (R211). -/
def vramSize (s : State) : Nat := s.cfg.geometry.bgCols * s.cfg.geometry.bgRows

/-- `OBJ_SIZE` (R211). -/
def objSize (s : State) : Nat := s.cfg.geometry.objSize

/-- `FG_SIZE` (R211). -/
def fgSize (s : State) : Nat := s.cfg.geometry.fgSize

/-- `m'` is `m` with the one cell at `a` holding `v`, said through reads. -/
def Stored {w : Nat} (m m' : Memory w) (a : Nat) (v : BitVec w) : Prop :=
  m'.read a = v ∧ ∀ b, b ≠ a → m'.read b = m.read b

/-- The operation returned `v` and changed nothing else. -/
def Returned (s t : State) (v : Byte) : Prop := t = { s with ret := some v }

/-- Bit `b` falls in a Port B write of `new`: an output that was 1 and is written 0 (R160). -/
def Falls (s : State) (new : Byte) (b : Nat) : Bool :=
  s.ddrB.getLsbD b && s.portBOut.getLsbD b && !new.getLsbD b

/-- Bit `b` rises in a Port B write of `new` (R160). -/
def Rises (s : State) (new : Byte) (b : Nat) : Bool :=
  s.ddrB.getLsbD b && !s.portBOut.getLsbD b && new.getLsbD b

/-- The five edges that have an action (R161), by number of the bit. -/
abbrev ActingEdge (s : State) (new : Byte) (b : Nat) : Prop :=
  (b = 0 ∧ Falls s new 0) ∨ (b = 1 ∧ Rises s new 1) ∨ (b = 2 ∧ Rises s new 2) ∨ (b = 4 ∧ Falls s new 4) ∨
    (b = 5 ∧ Falls s new 5)

/-- `address` after the two address loads of a Port B write of `new` (R163, R164). -/
def loadedAddress (s : State) (new : Byte) : BitVec 16 :=
  let low := if Rises s new 1 then (s.address &&& 0xFF00) ||| s.portAOut.setWidth 16 else s.address
  if Rises s new 2 then (low &&& 0x00FF) ||| ((s.portAOut &&& 0x0F).setWidth 16 <<< 8) else low

/-- The byte of `sharedram2` at `b` after the proxied access of a Port B write of `new` (R166). -/
def proxiedByte (s : State) (new : Byte) (b : Nat) : Byte :=
  let a := loadedAddress s new
  if Falls s new 4 ∧ new.getLsbD 3 = false ∧ a &&& 0x0C00 = 0x0C00 ∧ b = (a &&& 0x03FF).toNat then s.portAOut
  else s.sharedram2.read b

/-- `latch` after the proxied access of a Port B write of `new` (R166). -/
def proxiedLatch (s : State) (new : Byte) : Byte :=
  let a := loadedAddress s new
  if Falls s new 4 ∧ new.getLsbD 3 = true then
    if a &&& 0x0800 = 0 then s.inp.toList.getD ((a &&& 3).toNat + 1) 0
    else if a &&& 0x0C00 = 0x0C00 then s.sharedram2.read (a &&& 0x03FF).toNat
    else s.latch
  else s.latch

/-- The diagnostic of a Port B write of `new`: an unmapped proxied access (R166, R247). -/
def proxyEvents (s : State) (new : Byte) : List Event :=
  let a := loadedAddress s new
  if Falls s new 4 then
    if new.getLsbD 3 = true then
      if a &&& 0x0800 ≠ 0 ∧ a &&& 0x0C00 ≠ 0x0C00 then [.diag 0x01 a] else []
    else if a &&& 0x0C00 ≠ 0x0C00 then [.diag 0x02 a] else []
  else []

/-- All that `MCU_PB_WR new` does (R161 to R170), field by field. -/
structure PortBWritten (s : State) (new : Byte) (t : State) : Prop where
  deliver : t.portAIn = if Falls s new 0 then s.latch else s.portAIn
  address : t.address = loadedAddress s new
  latch : t.latch = proxiedLatch s new
  ram : ∃ r : Byte, r.toNat < 6 ∧
    ∀ b, t.sharedram2.read b = if Falls s new 5 ∧ b = 0x7C then r else proxiedByte s new b
  vector : t.mainIrqVector = if Falls s new 5 then proxiedByte s new 0 else s.mainIrqVector
  pending : t.mainIrqPending = true ↔ Falls s new 5 ∨ s.mainIrqPending = true
  events : t.events = s.events ++ proxyEvents s new ++
    (if Falls s new 5 then [.irqMain (proxiedByte s new 0)] else [])
  rest : t = { s with
    portAIn := t.portAIn
    address := t.address
    latch := t.latch
    sharedram2 := t.sharedram2
    mainIrqVector := t.mainIrqVector
    mainIrqPending := t.mainIrqPending
    events := t.events
    draws := t.draws
    portBOut := new }

/-- The read operations (R69). -/
def IsRead : Instr → Prop
  | .sr1Rd _ | .sr2Rd _ | .shrRd _ | .romwinRd _ | .sndlatchRd | .mcuPaRd | .mcuPbRd | .vramRd _ | .cramRd _
  | .objRd _ | .objxRd _ | .fgRd _ | .fakeRd => True
  | _ => False

/-- All that every write that changes `flip_screen` does (R131, R132, R197, R204): every cell is marked when the value
changes. -/
def FlipWritten (s t : State) (new : Bool) : Prop :=
  t = { s with
    flipScreen := new
    dirty := if new ≠ s.flipScreen then List.range (vramSize s) else s.dirty
    repaint := if new ≠ s.flipScreen ∧ s.cfg.variant = .s then true else s.repaint }

/-- The cell at `off` is marked, the set is otherwise as it was, and variant S asks for a repaint (R187, R189). -/
def CellMarked (s t : State) (off : Nat) : Prop :=
  (∀ n, n ∈ t.dirty ↔ n = off ∨ n ∈ s.dirty) ∧
  t.repaint = (if VariantK s then s.repaint else true)

/-- What the table of interrupt outputs and the table of diagnostics say of an event that operation `i` appends in going
from `s` to `t` (60_exceptions R247, R248). -/
def EventCaused (i : Instr) (s t : State) : Event → Prop
  | .nmiSound => (∃ v, i = .sndcmdWr v ∧ s.nmiEnabled = true) ∨ (∃ d, i = .nmiEn d ∧ s.nmiPending = true)
  | .nmiSub => ∃ d, i = .nmitrigWr d
  | .irqMain vector => ∃ v, i = .mcuPbWr v ∧ Falls s v 5 = true ∧ vector = t.mainIrqVector
  | .irqMcu level => i = .mcuIrqTick ∧ level = t.mcuIrqLine
  | .diag code addr => ∃ v, i = .mcuPbWr v ∧ Falls s v 4 = true ∧ addr = t.address ∧
      ((code = 0x01 ∧ v.getLsbD 3 = true ∧ addr.getLsbD 11 = true ∧ addr.getLsbD 10 = false) ∨
        (code = 0x02 ∧ v.getLsbD 3 = false ∧ ¬(addr.getLsbD 11 = true ∧ addr.getLsbD 10 = true)))

/-! ### What the compositor draws, written from its rules -/

/-- The blit of `DrawBgCell(n)` (R220), for a cell of the background. -/
def backgroundCell (s : State) (n : Nat) : Tile :=
  let q := s.cfg.geometry
  let attr := s.cram.read n
  { set := .bg
    code := (s.vram.read n).toNat + 256 * (attr.toNat % 4)
    color := attr.toNat / 16 + (if VariantK s then 16 * s.paletteBank.toNat else 0)
    flipx := if s.flipScreen then !attr.getLsbD 2 else attr.getLsbD 2
    flipy := if s.flipScreen then !attr.getLsbD 3 else attr.getLsbD 3
    x := if s.flipScreen then (q.bgTile : Int) * ((q.bgCols : Int) - 1 - (n % q.bgCols : Nat))
      else (q.bgTile : Int) * (n % q.bgCols : Nat)
    y := if s.flipScreen then (q.bgTile : Int) * ((q.bgRows : Int) - 1 - (n / q.bgCols : Nat))
      else (q.bgTile : Int) * (n / q.bgCols : Nat) }

/-- The blit of sub-tile `y` of sprite `n` (R224). -/
def spriteSubTile (s : State) (n y : Nat) : Tile :=
  let q := s.cfg.geometry
  let offs := q.objBase + 2 * (n % 12) + 64 * (n / 12)
  let sx : Int := (s.fgram.read (offs + 1)).toNat + 256 * ((s.objxram.read (offs + 1)).toNat % 2 : Nat)
  let sy : Int := 255 - (s.objram.read offs).toNat
  let attr := s.objxram.read (offs + 128 * y)
  { set := .spr
    code := (s.fgram.read (offs + 128 * y)).toNat + (if attr.getLsbD 0 then 512 else 0)
      + (if attr.getLsbD 1 then 256 else 0)
    color := (s.objram.read (offs + 1)).toNat % 32
    flipx := if s.flipScreen then !attr.getLsbD 3 else attr.getLsbD 3
    flipy := if s.flipScreen then !attr.getLsbD 2 else attr.getLsbD 2
    x := if sx > q.sprXwrap then sx - 512 else sx
    y := if s.flipScreen then 240 - sy - 16 * y else sy + 16 * y }

/-- The blit of foreground cell `n` (R226). -/
def foregroundCell (s : State) (n : Nat) : Tile :=
  let q := s.cfg.geometry
  let code := (s.fgram.read n).toNat
  { set := .fg
    code := code
    color := 2 * (Config.colorCodes (Fin.ofNat 32 (code / 8))).toNat + s.frontColor.toNat
    flipx := s.flipScreen
    flipy := s.flipScreen
    x := if s.flipScreen then (q.fgTile : Int) * ((q.fgVisCols : Int) - 1 - (n % q.fgStride : Nat))
      else (q.fgTile : Int) * (n % q.fgStride : Nat)
    y := if s.flipScreen then (q.fgTile : Int) * (31 - (n / q.fgStride : Nat))
      else (q.fgTile : Int) * (n / q.fgStride : Nat) }

/-- The blit of object `i`, if `S_OBJ` gives one for its quad (X, code, Y, bank) (R228). -/
def objectBlit (s : State) (i : Nat) : Option Tile :=
  match Config.sObj (s.objram.read (4 * i)) (s.objram.read (4 * i + 1)) (s.objram.read (4 * i + 2))
      (s.objram.read (4 * i + 3)) s.flipScreen with
  | some o => some ⟨.spr, o.tile, o.color, o.flipx, o.flipy, o.x, o.y⟩
  | none => none

/-- What is blitted over the background, in order: sprites 0 to 23 of 16 sub-tiles, then the foreground, in variant K; the
objects in variant S (R218 steps 5 and 6). -/
def blittedOver (s : State) : List Tile :=
  if VariantK s then
    ((List.range 24).flatMap fun n => (List.range 16).map fun y => spriteSubTile s n y) ++
      (List.range (fgSize s)).map (foregroundCell s)
  else (List.range (objSize s / 4)).filterMap (objectBlit s)

/-- `ScrollOffset()` (R222, R223). -/
def scrollOf (s : State) : Int × Int :=
  if VariantK s then
    (-((s.cfg.geometry.bgXbias + (s.backScrollYLo.toNat + 256 * s.backScrollYHi.toNat) : Nat) : Int),
      if s.flipScreen then (s.backScrollX.toNat : Int) else -(s.backScrollX.toNat : Int))
  else Config.sScroll s.backScrollX s.backScrollYLo s.backScrollYHi s.flipScreen

/-- The pen of a tile at its pixel (`px`, `py`), mirrored as its flips say (R216). -/
def penOf (q : Geometry) (t : Tile) (px py : Nat) : Nat :=
  Config.tileGfx t.set t.code (if t.flipx then q.edge t.set - 1 - px else px)
    (if t.flipy then q.edge t.set - 1 - py else py)

/-- The colour of a tile at its pixel (`px`, `py`) (R214, R216). -/
def colourOf (q : Geometry) (t : Tile) (px py : Nat) : Nat :=
  (Config.clut (q.nColors - 1) t.set t.color (penOf q t px py)).val

/-- The tile has a pixel at the position (`x`, `y`), and it is not of the transparent pen (R216). -/
def drawnAt (q : Geometry) (t : Tile) (x y : Nat) : Bool :=
  t.x ≤ x ∧ (x : Int) < t.x + q.edge t.set ∧ t.y ≤ y ∧ (y : Int) < t.y + q.edge t.set ∧
    penOf q t ((x : Int) - t.x).toNat ((y : Int) - t.y).toNat ≠ q.transparentPen t.set

end Sys2Proof.Claims

open Sys2Proof Sys2Proof.Machine Sys2Proof.Claims

/-! ## Encoding -/

/-- Decode and encode agree: the decoder reads every operation back from its word, and from its serialised bytes with
anything after them (30_encoding R91, R92, R100). That the data byte of the three strobes `NMI_DIS`, `NMI_EN` and
`NMITRIG_WR` is an operand that comes back, where R92 has it ignored, is the model's choice (log 18). -/
def Obligations.DecodeOfEncodeIsTheOperation : Prop :=
  ∀ i : Instr, decode (encode i) = .ok i ∧ ∀ rest, decodeBytes (encodeBytes i ++ rest) = .ok (i, rest)

/-- No bit of a word is dropped: the word of what was decoded is the word (30_encoding R91, R92). For the words of format
`F_X`, those of `NMI_DIS`, `NMI_EN` and `NMITRIG_WR`, this is the model's choice and follows from no rule: their constructors
keep the data byte that R92 has ignored, so that the encoder gives the word back (log 18). -/
def Obligations.EncodeOfDecodeIsTheWord : Prop :=
  ∀ (w : Word) (i : Instr), decode w = .ok i → encode i = w

/-- The decoder accepts exactly the words that match a row of the opcode table, and names the operation of that row
(30_encoding R92, R100, R101). -/
def Obligations.DecoderAcceptsExactlyTheOpcodeTable : Prop :=
  (∀ w : Word, (∃ i, decode w = .ok i) ↔ ∃ row ∈ opcodeTable, w &&& row.mask = row.pattern) ∧
  ∀ (w : Word) (i : Instr) (row : OpcodeRow), decode w = .ok i → row ∈ opcodeTable →
    w &&& row.mask = row.pattern → row.mnemonic = i.mnemonic

/-- Words written out from the spec's encoding decode to the operations they stand for (30_encoding R101 and the
vectors of 95_test_vectors). -/
def Obligations.WordsOfTheSpecDecode : Prop :=
  decode 0x2000005A = .ok (.sndcmdWr 0x5A) ∧ decode 0x030334FF = .ok (.sr2Wr 0x334 0xFF) ∧
  decode 0x34000012 = .ok (.mcuPbWr 0x12) ∧ decode 0x50000001 = .ok (.screenRefresh true) ∧
  decode 0x10000003 = .ok (.bankWr 0x03) ∧ decode 0x4100417E = .ok (.vramWr 0x41 0x7E) ∧
  decode 0x61FA8000 = .ok (.nopWr 0xFA80 0x00) ∧ decode 0x7100027F = .ok (.envInport 2 0x7F) ∧
  decode 0x06000000 = .error (.unknownOpcode 0x06) ∧ decode 0x50000002 = .error (.nonzeroField 0x50)

/-! ## The step -/

/-- A step performs the decoded operation of the next transaction: the transaction leaves the script, its agent is the
issuer and nothing has been returned yet (00_scope R16, 20_memory R76). The script, the issuer and the reply port are
the model's own fields (logs 2, 3). -/
def Obligations.StepPerformsTheNextTransaction : Prop :=
  ∀ (s : State) (t : Transaction) (rest : List Transaction) (i : Instr),
    s.script = t :: rest → decode t.word = .ok i →
    step s = exec i { s with agent := t.agent, script := rest, ret := none }

/-- A word that is no operation of the opcode map is refused by name (30_encoding R105 (a), (b)): an opcode that is not
in the map, and a nonzero field that the format requires to be zero. The names are the model's (log 14). -/
def Obligations.StepRefusesWordsOutsideTheMap : Prop :=
  ∀ (s : State) (t : Transaction) (rest : List Transaction), s.script = t :: rest →
    ((∀ row ∈ opcodeTable, t.word.extractLsb' 24 8 ≠ row.pattern.extractLsb' 24 8) →
      step s = .refused (.badWord (.unknownOpcode (t.word.extractLsb' 24 8)))) ∧
    (∀ row ∈ opcodeTable, t.word.extractLsb' 24 8 = row.pattern.extractLsb' 24 8 →
      t.word &&& row.mask ≠ row.pattern →
      step s = .refused (.badWord (.nonzeroField (t.word.extractLsb' 24 8))))

/-- With no transaction pending the block does nothing, for it does nothing on its own (70_reset_and_hazards R282). That
the machine idles then is the model's choice (log 2). -/
def Obligations.BlockDoesNothingOnItsOwn : Prop :=
  ∀ s : State, s.script = [] → step s = .next s

/-- A script of admitted transactions is never refused: each step answers a next state whose script is admitted again,
and so does every number of steps (60_exceptions R245, R267). That the machine idles once the script is at its end is the
model's choice (log 2). -/
def Obligations.AdmittedScriptIsNeverRefused : Prop :=
  ∀ s : State, s.scriptAdmitted → (∃ t, step s = .next t ∧ t.scriptAdmitted) ∧ s.Safe

/-! ## Configuration and reset -/

/-- The values the per-board configuration table gives each board (00_scope R9), the operations that exist on it by the
opcode map (30_encoding R100), and the defaults of the compositor's geometry (45_video_compositor R211). The entries the
tables call unused or none are not stated, and `HAS_MCU` is an argument where the spec leaves it OPEN (log 1). -/
def Obligations.BoardTable : Prop :=
  ∀ fitted : Bool,
    (let c := BoardParams.standard .bublbobl fitted;
      c.hasBanking = true ∧ c.xorMask = 4 ∧ c.bankSize = 0x4000 ∧ c.veMask = 0x40 ∧ c.bankFlipMask = 0x80 ∧
      c.hasVidctrl = false ∧ c.hasFlipReg = false ∧ c.hasSr12 = true ∧ c.hasShr = false ∧ c.sr1Size = 0x1800 ∧
      c.sr2Size = 0x400 ∧ c.sr2CpuWindow = 0x400 ∧ c.hasMcu = true ∧ c.hasSndlatch = true ∧ c.hasNmitrig = false ∧
      c.hasFake = false ∧ c.variant = .s) ∧
    (let c := BoardParams.standard .bootleg fitted;
      c.hasBanking = true ∧ c.xorMask = 4 ∧ c.bankSize = 0x4000 ∧ c.veMask = 0x40 ∧ c.bankFlipMask = 0x80 ∧
      c.hasVidctrl = false ∧ c.hasFlipReg = false ∧ c.hasSr12 = true ∧ c.hasShr = false ∧ c.sr1Size = 0x1800 ∧
      c.sr2Size = 0x400 ∧ c.sr2CpuWindow = 0x100 ∧ c.hasMcu = fitted ∧ c.hasSndlatch = true ∧
      c.hasNmitrig = false ∧ c.hasFake = false ∧ c.variant = .s) ∧
    (let c := BoardParams.standard .tokio fitted;
      c.hasBanking = true ∧ c.xorMask = 0 ∧ c.bankSize = 0x4000 ∧ c.veMask = 0 ∧ c.bankFlipMask = 0 ∧
      c.hasVidctrl = true ∧ c.vidctrlFlipMask = 0x80 ∧ c.hasFlipReg = false ∧ c.hasSr12 = true ∧ c.hasShr = false ∧
      c.sr1Size = 0x1800 ∧ c.sr2Size = 0x400 ∧ c.sr2CpuWindow = 0x400 ∧ c.hasMcu = fitted ∧
      c.hasSndlatch = true ∧ c.hasNmitrig = true ∧ c.hasFake = true ∧ c.variant = .s) ∧
    (let c := BoardParams.standard .kyugo fitted;
      c.hasBanking = false ∧ c.hasVidctrl = false ∧ c.hasFlipReg = true ∧ c.hasSr12 = false ∧ c.hasShr = true ∧
      c.shrSize = 0x0800 ∧ c.hasMcu = false ∧ c.hasSndlatch = true ∧ c.hasNmitrig = false ∧ c.hasFake = false ∧
      c.variant = .k) ∧
    (∀ (b : Board) (c : Cfg) (i : Instr), c.toBoardParams = BoardParams.standard b fitted →
      (i.existsOn c = true ↔ OnBoard b fitted i)) ∧
    (let q := Geometry.standard .k;
      (q.bgCols = 64 ∧ q.bgRows = 32 ∧ q.bgTile = 8 ∧ q.vramSize = 0x800 ∧ q.tmpW = 512 ∧ q.tmpH = 256) ∧
      (q.fbW = 288 ∧ q.fbH = 256 ∧ q.clip = ⟨0, 287, 16, 239⟩) ∧
      (q.objSize = 0x800 ∧ q.fgSize = 0x800 ∧ q.fgStride = 64 ∧ q.fgVisCols = 36 ∧ q.edge .fg = 8) ∧
      (q.edge .spr = 16 ∧ q.edge .bg = 8 ∧ q.objBase = 0x28 ∧ q.sprXwrap = 320 ∧ q.bgXbias = 32) ∧
      (∀ set, q.transparentPen set = 0) ∧ q.nColors = 256) ∧
    (let q := Geometry.standard .s;
      (q.bgCols = 32 ∧ q.bgRows = 32 ∧ q.bgTile = 8 ∧ q.vramSize = 0x400 ∧ q.tmpW = 256 ∧ q.tmpH = 256) ∧
      (q.fbW = 256 ∧ q.fbH = 256 ∧ q.clip = ⟨0, 255, 16, 239⟩ ∧ q.objSize = 0x300 ∧ q.edge .spr = 16 ∧ q.edge .bg = 8) ∧
      (∀ set, q.transparentPen set = 0) ∧ q.fillIndex = 0 ∧ q.nColors = 256) ∧
    ∀ b p, (Cfg.standard b fitted p).toBoardParams = BoardParams.standard b fitted ∧
      (Cfg.standard b fitted p).geometry = Geometry.standard (BoardParams.standard b fitted).variant

/-- What machine-init leaves, for every configuration (70_reset_and_hazards R280): the table of reset values. `inp` is any five
bytes and is not stated (log 6). -/
def Obligations.ResetValues : Prop :=
  ∀ c : Cfg, let s := State.resetFor c
    (s.portAOut = 0 ∧ s.portAIn = 0 ∧ s.ddrA = 0 ∧ s.portBOut = 0 ∧ s.ddrB = 0 ∧ s.latch = 0 ∧ s.address = 0) ∧
    (s.sndCmd = 0 ∧ s.nmiEnabled = false ∧ s.nmiPending = false) ∧
    (s.bankIndex = 0 ∧ s.flipScreen = false) ∧
    (s.videoEnable = true ↔ c.veMask = 0) ∧
    (∀ b, OfBoard s b → (s.videoEnable = true ↔ b = .tokio ∨ b = .kyugo)) ∧
    (s.backScrollX = 0 ∧ s.backScrollYLo = 0 ∧ s.backScrollYHi = 0 ∧ s.paletteBank = 0 ∧ s.frontColor = 0) ∧
    (c.variant = .s → s.repaint = true) ∧
    (∀ n, n ∈ s.dirty ↔ n < vramSize s) ∧
    (s.mcuIrqLine = false ∧ s.mainIrqPending = false ∧ s.mainIrqVector = 0 ∧ s.events = []) ∧
    (∀ a, s.sharedram1.read a = 0 ∧ s.sharedram2.read a = 0 ∧ s.sharedRam.read a = 0 ∧ s.vram.read a = 0 ∧
      s.cram.read a = 0 ∧ s.objram.read a = 0 ∧ s.objxram.read a = 0 ∧ s.fgram.read a = 0) ∧
    (∀ x y, s.tmp.get x y = 0 ∧ s.fb.get x y = 0) ∧
    s.palette = decodePalette c.geometry.nColors Config.promR Config.promG Config.promB

/-- The invariant of the machine holds after machine-init of every configuration that meets its premises
(60_exceptions R268; `Cfg.Sound`, inferred, log 8), and so at `State.reset`; and so does the soundness of the dirty
tracking, for every cell is marked. -/
def Obligations.InvariantHoldsAtReset : Prop :=
  (∀ c : Cfg, c.Sound → (State.resetFor c).Inv ∧ (State.resetFor c).BackgroundCurrent Config.gfx) ∧
  State.reset.Inv ∧ State.reset.BackgroundCurrent Config.gfx

/-- Every step keeps the invariant: canonical memories inside their spaces, the sound latch's invariant, twelve bits of
address, a sound dirty set, the decoded palette, and bitmaps of the geometry's size whose pixels are indices of the
palette. -/
def Obligations.StepKeepsTheInvariant : Prop :=
  ∀ s t : State, s.Inv → step s = .next t → t.Inv

/-! ## Shared memory -/

/-- `SR1_RD` and `SR1_WR` (40_shared_memory R121, R122), for every `SR1_SIZE`. -/
def Obligations.SharedRam1Operations : Prop :=
  ∀ (off : Offset) (v : Byte),
    Operation (.sr1Rd off) (0x00#8 ++ off ++ 0x00#8)
      (fun s => HasSr12 s ∧ FromCpu s ∧ off.toNat < s.cfg.sr1Size)
      (fun s t => Returned s t (s.sharedram1.read off.toNat)) ∧
    Operation (.sr1Wr off v) (0x01#8 ++ off ++ v)
      (fun s => HasSr12 s ∧ FromCpu s ∧ off.toNat < s.cfg.sr1Size)
      (fun s t => Stored s.sharedram1 t.sharedram1 off.toNat v ∧ t = { s with sharedram1 := t.sharedram1 })

/-- `SR2_RD` and `SR2_WR` (40_shared_memory R123, R124), for every `SR2_CPU_WINDOW`: 0x400, and on `BOOTLEG` 0x100. -/
def Obligations.SharedRam2Operations : Prop :=
  (∀ s : State, (OfBoard s .bublbobl ∨ OfBoard s .tokio → s.cfg.sr2CpuWindow = 0x400) ∧
    (OfBoard s .bootleg → s.cfg.sr2CpuWindow = 0x100)) ∧
  ∀ (off : Offset) (v : Byte),
    Operation (.sr2Rd off) (0x02#8 ++ off ++ 0x00#8)
      (fun s => HasSr12 s ∧ FromCpu s ∧ off.toNat < s.cfg.sr2CpuWindow)
      (fun s t => Returned s t (s.sharedram2.read off.toNat)) ∧
    Operation (.sr2Wr off v) (0x03#8 ++ off ++ v)
      (fun s => HasSr12 s ∧ FromCpu s ∧ off.toNat < s.cfg.sr2CpuWindow)
      (fun s t => Stored s.sharedram2 t.sharedram2 off.toNat v ∧ t = { s with sharedram2 := t.sharedram2 })

/-- `SHR_RD` and `SHR_WR` (40_shared_memory R125, R126), for every `SHR_SIZE`. -/
def Obligations.KyugoSharedRamOperations : Prop :=
  ∀ (off : Offset) (v : Byte),
    Operation (.shrRd off) (0x04#8 ++ off ++ 0x00#8)
      (fun s => s.cfg.hasShr = true ∧ FromCpu s ∧ off.toNat < s.cfg.shrSize)
      (fun s t => Returned s t (s.sharedRam.read off.toNat)) ∧
    Operation (.shrWr off v) (0x05#8 ++ off ++ v)
      (fun s => s.cfg.hasShr = true ∧ FromCpu s ∧ off.toNat < s.cfg.shrSize)
      (fun s t => Stored s.sharedRam t.sharedRam off.toNat v ∧ t = { s with sharedRam := t.sharedRam })

/-- Shared RAM is sequentially consistent: a read by any agent that reaches the block, right after a write by any agent
that reaches it, gives the byte written at that offset and what was there before at every other (20_memory R64, R71,
R75). The two CPUs reach the three blocks by their operations; the MCU reaches `sharedram2` by the proxied access of a
Port B write, its read going to `latch`. -/
def Obligations.SharedWriteIsVisibleToEveryAgent : Prop :=
  ∀ (s t : State) (a : Agent) (p q : Offset) (v : Byte), a = .main ∨ a = .sub →
    (exec (.sr1Wr p v) s = .next t → q.toNat < s.cfg.sr1Size →
      ∃ u, exec (.sr1Rd q) { t with agent := a } = .next u ∧
        u.ret = some (if q = p then v else s.sharedram1.read q.toNat)) ∧
    (exec (.sr2Wr p v) s = .next t → q.toNat < s.cfg.sr2CpuWindow →
      ∃ u, exec (.sr2Rd q) { t with agent := a } = .next u ∧
        u.ret = some (if q = p then v else s.sharedram2.read q.toNat)) ∧
    (exec (.shrWr p v) s = .next t → q.toNat < s.cfg.shrSize →
      ∃ u, exec (.shrRd q) { t with agent := a } = .next u ∧
        u.ret = some (if q = p then v else s.sharedRam.read q.toNat)) ∧
    (∀ new : Byte, exec (.sr2Wr p v) s = .next t → HasMcu s → Falls s new 4 = true → new.getLsbD 3 = true →
      loadedAddress s new &&& 0x0C00 = 0x0C00 →
      ∃ u, exec (.mcuPbWr new) { t with agent := .mcu } = .next u ∧
        u.latch = if (loadedAddress s new &&& 0x03FF).toNat = p.toNat then v
          else s.sharedram2.read (loadedAddress s new &&& 0x03FF).toNat) ∧
    (∀ new : Byte, exec (.mcuPbWr new) s = .next t → Falls s new 4 = true → Falls s new 5 = false →
      new.getLsbD 3 = false → loadedAddress s new &&& 0x0C00 = 0x0C00 →
      HasSr12 s → q.toNat < s.cfg.sr2CpuWindow →
      ∃ u, exec (.sr2Rd q) { t with agent := a } = .next u ∧
        u.ret = some (if q.toNat = (loadedAddress s new &&& 0x03FF).toNat then s.portAOut
          else s.sharedram2.read q.toNat))

/-! ## Bank switch -/

/-- `BANK_WR` (41_bank_switch R131): the bank, and where `VE_MASK` and `BANK_FLIP_MASK` name a bit the video enable and
the flip with its marking; so on `TOKIO` the bank and nothing else, on `BUBLBOBL` and `BOOTLEG` bits 6 and 7 too, and on
`KYUGO` a refusal. -/
def Obligations.BankRegisterWrite : Prop :=
  ∀ v : Byte,
    Operation (.bankWr v) (0x10#8 ++ 0x0000#16 ++ v)
      (fun s => HasBanking s ∧ s.agent = .main)
      (fun s t => ∃ u,
        u = { s with
          bankIndex := ((v ^^^ s.cfg.xorMask) &&& 7).setWidth 3
          videoEnable := if s.cfg.veMask ≠ 0 then decide (v &&& s.cfg.veMask ≠ 0) else s.videoEnable } ∧
        (s.cfg.bankFlipMask = 0 → t = u) ∧
        (s.cfg.bankFlipMask ≠ 0 → FlipWritten u t (decide (v &&& s.cfg.bankFlipMask ≠ 0))) ∧
        (OfBoard s .tokio → t = { s with bankIndex := (v &&& 7).setWidth 3 }) ∧
        (OfBoard s .bublbobl ∨ OfBoard s .bootleg →
          u = { s with bankIndex := ((v ^^^ 4) &&& 7).setWidth 3, videoEnable := v.getLsbD 6 } ∧
          FlipWritten u t (v.getLsbD 7))) ∧
    ∀ s, OfBoard s .kyugo → ∃ r, exec (.bankWr v) s = .refused r

/-- The bank decode law (41_bank_switch R134): after `BANK_WR v` the window shows the bank `(v ^ XOR_MASK) & 7`; with
mask 4 the map is 4 5 6 7 0 1 2 3, with mask 0 the identity. -/
def Obligations.BankDecodeLaw : Prop :=
  (∀ (s : State) (v : Byte), HasBanking s → s.agent = .main →
    ∃ t, exec (.bankWr v) s = .next t ∧
      t.bankIndex.toNat = ((v ^^^ s.cfg.xorMask) &&& 7).toNat ∧
      ∀ off : Offset, off.toNat < s.cfg.bankSize →
        exec (.romwinRd off) t = .next { t with
          ret := some (Config.rom (Config.romBase +
            s.cfg.bankSize * ((v ^^^ s.cfg.xorMask) &&& 7).toNat + off.toNat)) }) ∧
  (List.range 8).map (fun n => ((BitVec.ofNat 8 n ^^^ 4) &&& 7).toNat) = [4, 5, 6, 7, 0, 1, 2, 3] ∧
  (List.range 8).map (fun n => ((BitVec.ofNat 8 n ^^^ 0) &&& 7).toNat) = [0, 1, 2, 3, 4, 5, 6, 7]

/-- `VIDCTRL_WR` (41_bank_switch R132), of `TOKIO`, and `FLIP_WR` (44_video_ram_and_registers R204), of `KYUGO`:
flip-screen, and a change of it marks every cell. -/
def Obligations.FlipScreenRegisterWrites : Prop :=
  ∀ v : Byte,
    Operation (.vidctrlWr v) (0x11#8 ++ 0x0000#16 ++ v)
      (fun s => s.cfg.hasVidctrl = true ∧ s.agent = .main)
      (fun s t => FlipWritten s t (decide (v &&& s.cfg.vidctrlFlipMask ≠ 0)) ∧
        (OfBoard s .tokio → FlipWritten s t (v.getLsbD 7))) ∧
    OnlyOn (.vidctrlWr v) .tokio ∧
    Operation (.flipWr v) (0x4F#8 ++ 0x0000#16 ++ v)
      (fun s => s.cfg.hasFlipReg = true ∧ s.agent = .main) (fun s t => FlipWritten s t (v.getLsbD 0)) ∧
    OnlyOn (.flipWr v) .kyugo

/-- `ROMWIN_RD` (41_bank_switch R133): the byte of `rom` the window shows, always inside `rom`. -/
def Obligations.RomWindowRead : Prop :=
  ∀ off : Offset,
    Operation (.romwinRd off) (0x12#8 ++ off ++ 0x00#8)
      (fun s => HasBanking s ∧ s.agent = .main ∧ off.toNat < s.cfg.bankSize)
      (fun s t => Returned s t (Config.rom (Config.romBase + s.cfg.bankSize * s.bankIndex.toNat + off.toNat)) ∧
        Config.romBase + s.cfg.bankSize * s.bankIndex.toNat + off.toNat < Config.romSize s.cfg)

/-! ## Sound latch -/

/-- `SNDCMD_WR`, its NMI-assert event, and `SNDLATCH_RD` (42_sound_latch R141, R142, R143). -/
def Obligations.SoundCommandAndLatchRead : Prop :=
  (∀ v : Byte,
    Operation (.sndcmdWr v) (0x20#8 ++ 0x0000#16 ++ v)
      (fun s => HasSndlatch s ∧ s.agent = .main)
      (fun s t => t = { s with
        sndCmd := v
        nmiPending := if s.nmiEnabled then s.nmiPending else true
        events := if s.nmiEnabled then s.events ++ [.nmiSound] else s.events })) ∧
  Operation .sndlatchRd 0x21000000 (fun s => HasSndlatch s ∧ s.agent = .sound) (fun s t => Returned s t s.sndCmd)

/-- `NMI_DIS` and `NMI_EN` (42_sound_latch R144, R145), whatever the data byte. -/
def Obligations.NmiDisableAndEnable : Prop :=
  ∀ d : Byte,
    Operation (.nmiDis d) (0x22#8 ++ 0x0000#16 ++ d)
      (fun s => HasSndlatch s ∧ s.agent = .sound)
      (fun s t => t = { s with nmiEnabled := false }) ∧
    Operation (.nmiEn d) (0x23#8 ++ 0x0000#16 ++ d)
      (fun s => HasSndlatch s ∧ s.agent = .sound)
      (fun s t => t = { s with
        nmiEnabled := true
        nmiPending := false
        events := if s.nmiPending then s.events ++ [.nmiSound] else s.events })

/-- `NMITRIG_WR` (42_sound_latch R146): one pulse on the second CPU and nothing else, where
`HAS_NMITRIG`, that is on `TOKIO`. -/
def Obligations.SecondCpuNmiTrigger : Prop :=
  ∀ d : Byte,
    Operation (.nmitrigWr d) (0x24#8 ++ 0x0000#16 ++ d)
      (fun s => s.cfg.hasNmitrig = true ∧ s.agent = .main)
      (fun s t => t = { s with events := s.events ++ [.nmiSub] }) ∧
    OnlyOn (.nmitrigWr d) .tokio

/-- `nmi_enabled` and `nmi_pending` are never both true: it holds after machine-init and every step keeps it
(10_state R33). -/
def Obligations.NmiNeverPendingWhileEnabled : Prop :=
  (∀ c : Cfg, ¬((State.resetFor c).nmiEnabled = true ∧ (State.resetFor c).nmiPending = true)) ∧
  ∀ s t : State, ¬(s.nmiEnabled = true ∧ s.nmiPending = true) → step s = .next t →
    ¬(t.nmiEnabled = true ∧ t.nmiPending = true)

/-! ## Protection MCU -/

/-- `MCU_PA_RD`, `MCU_PA_WR` and `MCU_DDRA_WR` (43_protection_mcu R156, R157, R158): the read-back law, the latch, the
direction register. -/
def Obligations.PortAOperations : Prop :=
  Operation .mcuPaRd 0x30000000
    (fun s => HasMcu s ∧ s.agent = .mcu)
    (fun s t => ∃ v : Byte, Returned s t v ∧
      ∀ b < 8, v.getLsbD b = if s.ddrA.getLsbD b then s.portAOut.getLsbD b else s.portAIn.getLsbD b) ∧
  ∀ v : Byte,
    Operation (.mcuPaWr v) (0x31#8 ++ 0x0000#16 ++ v)
      (fun s => HasMcu s ∧ s.agent = .mcu) (fun s t => t = { s with portAOut := v }) ∧
    Operation (.mcuDdraWr v) (0x32#8 ++ 0x0000#16 ++ v)
      (fun s => HasMcu s ∧ s.agent = .mcu) (fun s t => t = { s with ddrA := v })

/-- `MCU_PB_RD` and `MCU_DDRB_WR` (43_protection_mcu R159, R171): the same read-back law with `PORT_B_IN`; changing the
direction register is no edge. -/
def Obligations.PortBReadAndDirection : Prop :=
  Operation .mcuPbRd 0x33000000
    (fun s => HasMcu s ∧ s.agent = .mcu)
    (fun s t => ∃ v : Byte, Returned s t v ∧
      ∀ b < 8, v.getLsbD b = if s.ddrB.getLsbD b then s.portBOut.getLsbD b else s.cfg.portBIn.getLsbD b) ∧
  ∀ v : Byte,
    Operation (.mcuDdrbWr v) (0x35#8 ++ 0x0000#16 ++ v)
      (fun s => HasMcu s ∧ s.agent = .mcu) (fun s t => t = { s with ddrB := v })

/-- `MCU_PB_WR` (43_protection_mcu R161): the five edge actions in ascending bit order, each seeing what the earlier
ones left, and the latch updated last. -/
def Obligations.PortBWrite : Prop :=
  ∀ new : Byte,
    Operation (.mcuPbWr new) (0x34#8 ++ 0x0000#16 ++ new)
      (fun s => HasMcu s ∧ s.agent = .mcu) (fun s t => PortBWritten s new t)

/-- A Port B write with no acting edge only stores its byte: the bit is an input, or does not change, or moves the way
that has no action (43_protection_mcu R160, R170, R173 (a) to (c)). -/
def Obligations.PortBWriteWithoutActingEdge : Prop :=
  ∀ (s : State) (new : Byte), HasMcu s → s.agent = .mcu → (∀ b, ¬ActingEdge s new b) →
    exec (.mcuPbWr new) s = .next { s with portBOut := new }

/-- The proxy address decode (43_protection_mcu R167), when bit 4 falls and no other edge acts: by bits 11 and 10 of
`address` and the direction, bit 3 of the byte written. -/
def Obligations.ProxyAddressDecode : Prop :=
  ∀ (s : State) (new : Byte), HasMcu s → s.agent = .mcu → (∀ b, ActingEdge s new b ↔ b = 4) →
    ∃ t, exec (.mcuPbWr new) s = .next t ∧
      (new.getLsbD 3 = true → s.address.getLsbD 11 = false →
        t = { s with portBOut := new, latch := s.inp.toList.getD ((s.address &&& 3).toNat + 1) 0 }) ∧
      (new.getLsbD 3 = true → s.address.getLsbD 11 = true → s.address.getLsbD 10 = true →
        t = { s with portBOut := new, latch := s.sharedram2.read (s.address.toNat % 0x400) }) ∧
      (new.getLsbD 3 = true → s.address.getLsbD 11 = true → s.address.getLsbD 10 = false →
        t = { s with portBOut := new, events := s.events ++ [.diag 0x01 s.address] }) ∧
      (new.getLsbD 3 = false → s.address.getLsbD 11 = true → s.address.getLsbD 10 = true →
        Stored s.sharedram2 t.sharedram2 (s.address.toNat % 0x400) s.portAOut ∧
        t = { s with portBOut := new, sharedram2 := t.sharedram2 }) ∧
      (new.getLsbD 3 = false → ¬(s.address.getLsbD 11 = true ∧ s.address.getLsbD 10 = true) →
        t = { s with portBOut := new, events := s.events ++ [.diag 0x02 s.address] })

/-- Raising the main CPU's interrupt (43_protection_mcu R168), when bit 5 falls and no other edge acts: one of six bytes
goes to `sharedram2[0x7C]`, the vector is `sharedram2[0]`, the request is held and the event appended. -/
def Obligations.InterruptActionRaisesHeldInterrupt : Prop :=
  ∀ (s : State) (new : Byte), HasMcu s → s.agent = .mcu → (∀ b, ActingEdge s new b ↔ b = 5) →
    ∃ t, exec (.mcuPbWr new) s = .next t ∧
      ∃ r : Byte, r.toNat < 6 ∧ Stored s.sharedram2 t.sharedram2 0x7C r ∧
        t = { s with
          portBOut := new
          sharedram2 := t.sharedram2
          mainIrqVector := s.sharedram2.read 0
          mainIrqPending := true
          events := s.events ++ [.irqMain (s.sharedram2.read 0)]
          draws := t.draws }

/-- `MCU_IRQ_TICK` (43_protection_mcu R172): every tick inverts the line and says its new level. -/
def Obligations.McuInterruptTick : Prop :=
  Operation .mcuIrqTick 0x36000000
    (fun s => HasMcu s ∧ s.agent = .sched)
    (fun s t => t = { s with mcuIrqLine := !s.mcuIrqLine, events := s.events ++ [.irqMcu (!s.mcuIrqLine)] })

/-! ## The held interrupt -/

/-- `MAIN_IRQ_ACK` (60_exceptions R253): the vector is returned and kept, the request is cleared. -/
def Obligations.MainInterruptAcknowledge : Prop :=
  Operation .mainIrqAck 0x70000000
    (fun s => HasMcu s ∧ s.agent = .main)
    (fun s t => t = { s with ret := some s.mainIrqVector, mainIrqPending := false })

/-- The held interrupt stays pending, whatever else happens, until `MAIN_IRQ_ACK`; and only a Port B write raises it
or changes its vector (60_exceptions R252). -/
def Obligations.InterruptHeldUntilAcknowledged : Prop :=
  ∀ (i : Instr) (s t : State), exec i s = .next t →
    (s.mainIrqPending = true → t.mainIrqPending = false → i = .mainIrqAck) ∧
    (s.mainIrqPending = false → t.mainIrqPending = true → ∃ v, i = .mcuPbWr v ∧ Falls s v 5) ∧
    (t.mainIrqVector ≠ s.mainIrqVector → ∃ v, i = .mcuPbWr v ∧ Falls s v 5)

/-! ## Whole-machine rules -/

/-- The MCU unit's registers are written only by the operations their rules name (10_state R21 to R27, R45, R46). -/
def Obligations.McuRegistersWrittenOnlyByTheirOperations : Prop :=
  ∀ (i : Instr) (s t : State), exec i s = .next t →
    (t.portAOut ≠ s.portAOut → ∃ v, i = .mcuPaWr v) ∧
    (t.portAIn ≠ s.portAIn → ∃ v, i = .mcuPbWr v ∧ Falls s v 0) ∧
    (t.ddrA ≠ s.ddrA → ∃ v, i = .mcuDdraWr v) ∧
    (t.portBOut ≠ s.portBOut → ∃ v, i = .mcuPbWr v) ∧
    (t.ddrB ≠ s.ddrB → ∃ v, i = .mcuDdrbWr v) ∧
    (t.address ≠ s.address → ∃ v, i = .mcuPbWr v ∧ (Rises s v 1 ∨ Rises s v 2)) ∧
    (t.latch ≠ s.latch → ∃ v, i = .mcuPbWr v ∧ Falls s v 4 ∧ v.getLsbD 3 = true) ∧
    (t.mcuIrqLine ≠ s.mcuIrqLine → i = .mcuIrqTick)

/-- The sound, bank and video registers are written only by the operations their rules name (10_state R30 to R41); the
configuration and the palette are written by nothing (R8, R44). -/
def Obligations.OtherRegistersWrittenOnlyByTheirOperations : Prop :=
  ∀ (i : Instr) (s t : State), exec i s = .next t →
    (t.sndCmd ≠ s.sndCmd → ∃ v, i = .sndcmdWr v) ∧
    (t.nmiEnabled ≠ s.nmiEnabled → ∃ d, i = .nmiEn d ∨ i = .nmiDis d) ∧
    (t.nmiPending ≠ s.nmiPending → ∃ d, i = .sndcmdWr d ∨ i = .nmiEn d) ∧
    (t.bankIndex ≠ s.bankIndex → ∃ v, i = .bankWr v) ∧
    (t.videoEnable ≠ s.videoEnable → s.cfg.veMask ≠ 0 ∧ ∃ v, i = .bankWr v) ∧
    (t.flipScreen ≠ s.flipScreen → ∃ v, i = .bankWr v ∨ i = .vidctrlWr v ∨ i = .flipWr v) ∧
    (t.backScrollX ≠ s.backScrollX → ∃ v, i = .scrxWr v) ∧
    (t.backScrollYLo ≠ s.backScrollYLo → ∃ v, i = .scryloWr v) ∧
    (t.backScrollYHi ≠ s.backScrollYHi → ∃ v, i = .scryhiWr v) ∧
    (t.paletteBank ≠ s.paletteBank → ∃ v, i = .palbankWr v) ∧
    (t.frontColor ≠ s.frontColor → ∃ v, i = .frontcolWr v) ∧
    t.cfg = s.cfg ∧ t.palette = s.palette

/-- Every byte of every memory space is written only by the operations that reach the space, and only at the offset they
name (20_memory R60, R64, R70). -/
def Obligations.MemoryCellsWrittenOnlyByTheirOperations : Prop :=
  ∀ (i : Instr) (s t : State) (a : Nat), exec i s = .next t →
    (t.sharedram1.read a ≠ s.sharedram1.read a → ∃ off v, i = .sr1Wr off v ∧ off.toNat = a) ∧
    (t.sharedram2.read a ≠ s.sharedram2.read a →
      (∃ off v, i = .sr2Wr off v ∧ off.toNat = a) ∨
      (∃ v, i = .mcuPbWr v ∧ ((Falls s v 5 ∧ a = 0x7C) ∨
        (Falls s v 4 ∧ v.getLsbD 3 = false ∧ a = t.address.toNat % 0x400)))) ∧
    (t.sharedRam.read a ≠ s.sharedRam.read a → ∃ off v, i = .shrWr off v ∧ off.toNat = a) ∧
    (t.vram.read a ≠ s.vram.read a → ∃ off v, i = .vramWr off v ∧ off.toNat = a) ∧
    (t.cram.read a ≠ s.cram.read a → ∃ off v, i = .cramWr off v ∧ off.toNat = a) ∧
    (t.objram.read a ≠ s.objram.read a → ∃ off v, i = .objWr off v ∧ off.toNat = a) ∧
    (t.objxram.read a ≠ s.objxram.read a → ∃ off v, i = .objxWr off v ∧ off.toNat = a) ∧
    (t.fgram.read a ≠ s.fgram.read a → ∃ off v, i = .fgWr off v ∧ off.toNat = a) ∧
    (t.inp.toList.getD a 0 ≠ s.inp.toList.getD a 0 → ∃ idx v, i = .envInport idx v ∧ idx.toNat = a) ∧
    (t.tmp ≠ s.tmp ∨ t.fb ≠ s.fb → ∃ full, i = .screenRefresh full)

/-- What each agent can change (60_exceptions R262, R263): the second CPU the shared RAMs alone, the sound CPU the two
NMI flags alone, the input collaborator the input ports alone, the scheduler the MCU's line and the picture alone, the
MCU its own unit, `sharedram2` and the interrupt it raises; and the main CPU neither the MCU's registers nor its line, nor
`nmi_enabled`, the interrupt's vector, the picture, the palette, the inputs or the configuration. -/
def Obligations.AgentsChangeOnlyWhatTheyAreWiredTo : Prop :=
  ∀ (i : Instr) (s t : State), exec i s = .next t →
    (s.agent = .main → t = { s with
      sharedram1 := t.sharedram1, sharedram2 := t.sharedram2, sharedRam := t.sharedRam, bankIndex := t.bankIndex,
      videoEnable := t.videoEnable, flipScreen := t.flipScreen, sndCmd := t.sndCmd, nmiPending := t.nmiPending,
      vram := t.vram, cram := t.cram, objram := t.objram, objxram := t.objxram, fgram := t.fgram,
      backScrollX := t.backScrollX, backScrollYLo := t.backScrollYLo, backScrollYHi := t.backScrollYHi,
      paletteBank := t.paletteBank, frontColor := t.frontColor, dirty := t.dirty, repaint := t.repaint,
      mainIrqPending := t.mainIrqPending, events := t.events, ret := t.ret }) ∧
    (s.agent = .sub → t = { s with
      sharedram1 := t.sharedram1, sharedram2 := t.sharedram2, sharedRam := t.sharedRam, ret := t.ret }) ∧
    (s.agent = .sound → t = { s with
      nmiEnabled := t.nmiEnabled, nmiPending := t.nmiPending, events := t.events, ret := t.ret }) ∧
    (s.agent = .env → t = { s with inp := t.inp }) ∧
    (s.agent = .sched → t = { s with
      mcuIrqLine := t.mcuIrqLine, events := t.events, tmp := t.tmp, fb := t.fb, dirty := t.dirty,
      repaint := t.repaint }) ∧
    (s.agent = .mcu → t = { s with
      portAOut := t.portAOut, portAIn := t.portAIn, ddrA := t.ddrA, portBOut := t.portBOut, ddrB := t.ddrB,
      address := t.address, latch := t.latch, sharedram2 := t.sharedram2, mainIrqVector := t.mainIrqVector,
      mainIrqPending := t.mainIrqPending, events := t.events, draws := t.draws, ret := t.ret })

/-- `events` is append-only and no operation reads it: an operation appends the same events whatever the trace holds and
does all else the same (10_state R47). It is empty after machine-init. -/
def Obligations.EventsAreAppendedAndReadByNothing : Prop :=
  (∀ c : Cfg, (State.resetFor c).events = []) ∧
  ∀ (i : Instr) (s t : State), exec i s = .next t →
    ∃ new, t.events = s.events ++ new ∧
      ∀ es, exec i { s with events := es } = .next { t with events := es ++ new }

/-- Every event has the cause the spec's tables give it, and no other (60_exceptions R247, R248): which operation appends
it, what gates it, and the vector, the level or the address it carries. -/
def Obligations.EventsHaveTheirCauses : Prop :=
  ∀ (i : Instr) (s t : State) (new : List Event), exec i s = .next t → t.events = s.events ++ new →
    ∀ e ∈ new, EventCaused i s t e

/-- No read operation changes state, and reading again returns the same byte; the acknowledge is the one read that
changes state (20_memory R69). -/
def Obligations.ReadsChangeNothing : Prop :=
  (∀ (i : Instr) (s t : State), IsRead i → exec i s = .next t →
    (∃ v, Returned s t v) ∧ exec i t = .next t) ∧
  ∀ s t : State, exec .mainIrqAck s = .next t →
    t = { s with ret := some s.mainIrqVector, mainIrqPending := false }

/-! ## Video RAM and video registers -/

/-- `VRAM_RD`, `CRAM_RD`, `OBJ_RD`, `OBJX_RD` and `FG_RD` (44_video_ram_and_registers R186, R188, R190, R192, R194). -/
def Obligations.VideoRamReads : Prop :=
  ∀ off : Offset,
    Operation (.vramRd off) (0x40#8 ++ off ++ 0x00#8)
      (fun s => s.agent = .main ∧ off.toNat < vramSize s) (fun s t => Returned s t (s.vram.read off.toNat)) ∧
    Operation (.cramRd off) (0x42#8 ++ off ++ 0x00#8)
      (fun s => s.agent = .main ∧ off.toNat < vramSize s) (fun s t => Returned s t (s.cram.read off.toNat)) ∧
    Operation (.objRd off) (0x44#8 ++ off ++ 0x00#8)
      (fun s => s.agent = .main ∧ off.toNat < objSize s) (fun s t => Returned s t (s.objram.read off.toNat)) ∧
    Operation (.objxRd off) (0x46#8 ++ off ++ 0x00#8)
      (fun s => VariantK s ∧ s.agent = .main ∧ off.toNat < objSize s)
      (fun s t => Returned s t (0#4 ++ s.objxram.read off.toNat)) ∧
    Operation (.fgRd off) (0x48#8 ++ off ++ 0x00#8)
      (fun s => VariantK s ∧ s.agent = .main ∧ off.toNat < fgSize s)
      (fun s t => Returned s t (s.fgram.read off.toNat))

/-- `VRAM_WR` and `CRAM_WR` (44_video_ram_and_registers R187, R189): the byte is stored and its cell marked. -/
def Obligations.VideoRamWritesMarkTheirCell : Prop :=
  ∀ (off : Offset) (v : Byte),
    Operation (.vramWr off v) (0x41#8 ++ off ++ v)
      (fun s => s.agent = .main ∧ off.toNat < vramSize s)
      (fun s t => Stored s.vram t.vram off.toNat v ∧ CellMarked s t off.toNat ∧
        t = { s with vram := t.vram, dirty := t.dirty, repaint := t.repaint }) ∧
    Operation (.cramWr off v) (0x43#8 ++ off ++ v)
      (fun s => s.agent = .main ∧ off.toNat < vramSize s)
      (fun s t => Stored s.cram t.cram off.toNat v ∧ CellMarked s t off.toNat ∧
        t = { s with cram := t.cram, dirty := t.dirty, repaint := t.repaint })

/-- `OBJ_WR`, `OBJX_WR` and `FG_WR` (44_video_ram_and_registers R191, R193, R195): the cell is stored, the nibble RAM
keeping bits 3:0, and nothing is marked. -/
def Obligations.ObjectAndForegroundWrites : Prop :=
  ∀ (off : Offset) (v : Byte),
    Operation (.objWr off v) (0x45#8 ++ off ++ v)
      (fun s => s.agent = .main ∧ off.toNat < objSize s)
      (fun s t => Stored s.objram t.objram off.toNat v ∧ t = { s with objram := t.objram }) ∧
    Operation (.objxWr off v) (0x47#8 ++ off ++ v)
      (fun s => VariantK s ∧ s.agent = .main ∧ off.toNat < objSize s)
      (fun s t => Stored s.objxram t.objxram off.toNat (v.extractLsb' 0 4) ∧ t = { s with objxram := t.objxram }) ∧
    Operation (.fgWr off v) (0x49#8 ++ off ++ v)
      (fun s => VariantK s ∧ s.agent = .main ∧ off.toNat < fgSize s)
      (fun s t => Stored s.fgram t.fgram off.toNat v ∧ t = { s with fgram := t.fgram })

/-- `SCRX_WR`, `SCRYLO_WR` and `SCRYHI_WR` (44_video_ram_and_registers R198, R199, R200). -/
def Obligations.ScrollRegisterWrites : Prop :=
  ∀ v : Byte,
    Operation (.scrxWr v) (0x4A#8 ++ 0x0000#16 ++ v)
      (fun s => s.agent = .main) (fun s t => t = { s with backScrollX := v }) ∧
    Operation (.scryloWr v) (0x4B#8 ++ 0x0000#16 ++ v)
      (fun s => s.agent = .main) (fun s t => t = { s with backScrollYLo := v }) ∧
    Operation (.scryhiWr v) (0x4C#8 ++ 0x0000#16 ++ v)
      (fun s => s.agent = .main)
      (fun s t => t = { s with backScrollYHi := v.extractLsb' 0 1 } ∧
        t.scrollV = t.backScrollYLo.toNat + 256 * (if v.getLsbD 0 then 1 else 0))

/-- `PALBANK_WR` and `FRONTCOL_WR` (44_video_ram_and_registers R201, R202): a change of the palette bank marks every
cell. -/
def Obligations.ColourRegisterWrites : Prop :=
  ∀ v : Byte,
    Operation (.palbankWr v) (0x4D#8 ++ 0x0000#16 ++ v)
      (fun s => VariantK s ∧ s.agent = .main)
      (fun s t => t = { s with
        paletteBank := v.extractLsb' 0 1
        dirty := if v.extractLsb' 0 1 ≠ s.paletteBank then List.range (vramSize s) else s.dirty }) ∧
    Operation (.frontcolWr v) (0x4E#8 ++ 0x0000#16 ++ v)
      (fun s => VariantK s ∧ s.agent = .main) (fun s t => t = { s with frontColor := v.extractLsb' 0 1 })

/-- The dirty-tracking law (44_video_ram_and_registers R196): a cell comes into the set only by a write at its offset or
by an operation that marks every cell; after a frame with video on the set is empty and the next frame would draw no
cell. -/
def Obligations.DirtyTrackingLaw : Prop :=
  (∀ (i : Instr) (s t : State) (n : Nat), exec i s = .next t → n ∈ t.dirty → n ∉ s.dirty →
    (∃ off v, off.toNat = n ∧ (i = .vramWr off v ∨ i = .cramWr off v)) ∨
    (∃ v, i = .palbankWr v ∨ i = .flipWr v ∨ i = .bankWr v ∨ i = .vidctrlWr v)) ∧
  (∀ (s t : State) (full : Bool), exec (.screenRefresh full) s = .next t → s.videoEnabled = true →
    t.dirty = [] ∧ t.redrawCells = [])

/-! ## Compositor -/

/-- The palette decode (45_video_compositor R212, R213): the weighted sum, its table (the spec's own inference, "[derived:
from rule R212]"), and the palette of every machine after machine-init. -/
def Obligations.PaletteDecode : Prop :=
  (∀ b : Byte, (dac b).toNat =
    0x0E * (b.getLsbD 0).toNat + 0x1F * (b.getLsbD 1).toNat + 0x43 * (b.getLsbD 2).toNat
      + 0x8F * (b.getLsbD 3).toNat) ∧
  (List.range 16).map (fun n => dac (BitVec.ofNat 8 n)) =
    [0x00, 0x0E, 0x1F, 0x2D, 0x43, 0x51, 0x62, 0x70, 0x8F, 0x9D, 0xAE, 0xBC, 0xD2, 0xE0, 0xF1, 0xFF] ∧
  ∀ c : Cfg, (State.resetFor c).palette.length = c.geometry.nColors ∧
    ∀ i, i < c.geometry.nColors → (State.resetFor c).palette[i]? =
      some ⟨dac (Config.promR i), dac (Config.promG i), dac (Config.promB i)⟩

/-- `SCREEN_REFRESH` always answers, leaves no cell marked when video is on, and changes nothing but the picture, the
marks and the repaint flag (45_video_compositor R218, R221). -/
def Obligations.ScreenRefreshChangesOnlyThePicture : Prop :=
  ∀ full : Bool,
    Operation (.screenRefresh full) (0x50#8 ++ 0x0000#16 ++ (if full then 1#8 else 0#8))
      (fun s => s.agent = .sched)
      (fun s t =>
        t = { s with tmp := t.tmp, fb := t.fb, dirty := t.dirty, repaint := t.repaint } ∧
        (s.videoEnabled = true → t.dirty = [] ∧ t.repaint = (if VariantK s then s.repaint else false)) ∧
        (s.videoEnabled = false → t.tmp = s.tmp ∧ t.dirty = s.dirty ∧ t.repaint = s.repaint))

/-- `BlankFrame()` (45_video_compositor R219): with video disabled the visible rectangle is filled with the fill index
and nothing else changes; a board whose `VE_MASK` is 0, such as `TOKIO` and `KYUGO`, never takes this branch. -/
def Obligations.DisabledVideoShowsTheFillIndex : Prop :=
  (∀ (s : State) (full : Bool), s.cfg.veMask ≠ 0 → s.videoEnable = false →
    s.agent = .sched → s.cfg.Sound → s.fb.sized s.cfg.geometry.fbW s.cfg.geometry.fbH →
    ∃ t, exec (.screenRefresh full) s = .next t ∧ t = { s with fb := t.fb } ∧
      ∀ x y, x < s.cfg.geometry.fbW → y < s.cfg.geometry.fbH → t.fb.get x y =
        if s.cfg.geometry.clip.x0 ≤ x ∧ x ≤ s.cfg.geometry.clip.x1 ∧ s.cfg.geometry.clip.y0 ≤ y ∧
            y ≤ s.cfg.geometry.clip.y1
        then s.cfg.geometry.fillIndex else s.fb.get x y) ∧
  ∀ s : State, s.cfg.veMask = 0 ∨ OfBoard s .tokio ∨ OfBoard s .kyugo → s.videoEnabled = true

/-- Pixels of `fb` outside the visible rectangle are never written, by any step (45_video_compositor R215). -/
def Obligations.PixelsOutsideTheClipAreNeverWritten : Prop :=
  ∀ (s t : State) (x y : Nat), s.cfg.Sound → s.BitmapsSized → step s = .next t →
    x < s.cfg.geometry.fbW → y < s.cfg.geometry.fbH → s.cfg.geometry.clip.holds x y = false →
    t.fb.get x y = s.fb.get x y

/-- Every visible pixel of a frame, from the memories and registers alone (45_video_compositor R216, R217, R218, R222 to
R228): the colour of the last sprite, foreground cell or object that draws it, and where none does the background at the
scrolled position. -/
def Obligations.EveryVisiblePixelOfAFrame : Prop :=
  ∀ (s t : State) (full : Bool) (x y : Nat), s.cfg.Sound → s.BitmapsSized → s.videoEnabled = true →
    exec (.screenRefresh full) s = .next t → s.cfg.geometry.clip.holds x y = true →
    t.fb.get x y =
      match ((blittedOver s).filter fun o => drawnAt s.cfg.geometry o x y).getLast? with
      | some o => colourOf s.cfg.geometry o ((x : Int) - o.x).toNat ((y : Int) - o.y).toNat
      | none => t.tmp.get (((x : Int) - (scrollOf s).1) % s.cfg.geometry.tmpW).toNat
          (((y : Int) - (scrollOf s).2) % s.cfg.geometry.tmpH).toNat

/-- The scroll mapping of variant K (45_video_compositor R222): where a visible pixel comes from, unflipped and flipped;
the constants 32, 512 and 256 of the rule are `BG_XBIAS`, `TMP_W` and `TMP_H`. -/
def Obligations.KyugoScrollMapping : Prop :=
  ∀ (s : State) (fb : Bitmap) (x y : Nat), VariantK s → s.cfg.Sound →
    fb.sized s.cfg.geometry.fbW s.cfg.geometry.fbH → s.cfg.geometry.clip.holds x y = true →
    (scrollCopy s.cfg.geometry s.tmp fb (s.scrollOffset Config.gfx).1 (s.scrollOffset Config.gfx).2).get x y =
      s.tmp.get
        ((x + s.cfg.geometry.bgXbias + (s.backScrollYLo.toNat + 256 * s.backScrollYHi.toNat)) % s.cfg.geometry.tmpW)
        (if s.flipScreen then (((y : Int) - s.backScrollX.toNat) % s.cfg.geometry.tmpH).toNat
          else (y + s.backScrollX.toNat) % s.cfg.geometry.tmpH)

/-- The dirty tracking is sound, in every state the invariant allows: each step keeps every unmarked cell shown by `tmp`
as the video RAMs, the palette bank and the flip flag describe it (10_state R43, R49; 20_memory R81). -/
def Obligations.StepKeepsUnmarkedCellsCurrent : Prop :=
  ∀ s t : State, s.Inv → s.BackgroundCurrent Config.gfx → step s = .next t → t.BackgroundCurrent Config.gfx

/-- After a frame with video on every cell of the background is shown as the video RAMs describe it, whether or not the
frame redrew it: every pixel of its tile, with its code, colour, flips and place (45_video_compositor R216, R220, R221). -/
def Obligations.FrameLeavesEveryCellCurrent : Prop :=
  ∀ (s t : State) (full : Bool), s.Inv → s.BackgroundCurrent Config.gfx → s.videoEnabled = true →
    exec (.screenRefresh full) s = .next t →
    ∀ n px py, n < vramSize s → px < s.cfg.geometry.bgTile → py < s.cfg.geometry.bgTile →
      t.tmp.get ((backgroundCell s n).x + px).toNat ((backgroundCell s n).y + py).toNat =
        colourOf s.cfg.geometry (backgroundCell s n) px py

/-- The dirty tracking changes no picture: a full refresh and an incremental one show the same pixels and leave the same
background (20_memory R81, 45_video_compositor R218). -/
def Obligations.FullAndIncrementalRefreshAgree : Prop :=
  ∀ (s t u : State), s.Inv → s.BackgroundCurrent Config.gfx →
    exec (.screenRefresh false) s = .next t → exec (.screenRefresh true) s = .next u →
    (∀ x y, x < s.cfg.geometry.fbW → y < s.cfg.geometry.fbH → t.fb.get x y = u.fb.get x y) ∧
    (∀ x y, x < s.cfg.geometry.tmpW → y < s.cfg.geometry.tmpH → t.tmp.get x y = u.tmp.get x y)

/-- Two frames with no operation between them show the same pixels, whatever their flags (the spec's own inference,
45_video_compositor R229 (c), "two `SCREEN_REFRESH` with no operation between them produce the same `fb`"). -/
def Obligations.RepeatedRefreshShowsTheSameFrame : Prop :=
  ∀ (s t u : State) (full again : Bool), s.Inv → s.BackgroundCurrent Config.gfx →
    exec (.screenRefresh full) s = .next t → exec (.screenRefresh again) t = .next u →
    ∀ x y, x < s.cfg.geometry.fbW → y < s.cfg.geometry.fbH → u.fb.get x y = t.fb.get x y

/-- The flip-screen law (45_video_compositor R230): a sprite drawn at row `sy` is blitted at `240 - sy` and upwards when
flipped, and both flip flags are inverted, for sprites and for background cells. -/
def Obligations.FlipScreenLaw : Prop :=
  ∀ (s : State) (n y : Nat),
    let off : State := { s with flipScreen := false }
    let on : State := { s with flipScreen := true }
    (off.spriteTile n y).y = (255 - (s.objram.read (spriteOffs s.cfg.geometry n)).toNat : Int) + 16 * y ∧
    (on.spriteTile n y).y = 240 - (255 - (s.objram.read (spriteOffs s.cfg.geometry n)).toNat : Int) - 16 * y ∧
    (on.spriteTile n y).flipx = !(off.spriteTile n y).flipx ∧
    (on.spriteTile n y).flipy = !(off.spriteTile n y).flipy ∧
    (on.bgTile n).flipx = !(off.bgTile n).flipx ∧ (on.bgTile n).flipy = !(off.bgTile n).flipy

/-- The sprite table (45_video_compositor R224): every one of the 24 x 16 sub-tiles is blitted, with the `sx`, code,
colour, flips and position the rule gives; and its ranges (R224, R225): the offsets lie inside the three regions, `sx` is
not mirrored and ranges over -191 to 320 with the default wrap, the code ranges over 0 to 1023. -/
def Obligations.SpriteTableRanges : Prop :=
  ∀ s : State,
    s.spriteTiles.length = 384 ∧
    ∀ n y, n < 24 → y < 16 →
      s.spriteTile n y = spriteSubTile s n y ∧ s.spriteTile n y ∈ s.spriteTiles ∧
      (VariantK s → s.cfg.Sound → spriteOffs s.cfg.geometry n + 128 * y + 1 < objSize s ∧
        spriteOffs s.cfg.geometry n + 128 * y + 1 < fgSize s) ∧
      (s.cfg.geometry.sprXwrap = 320 → -191 ≤ (s.spriteTile n y).x ∧ (s.spriteTile n y).x ≤ 320) ∧
      (s.spriteTile n y).code ≤ 1023 ∧
      ({ s with flipScreen := !s.flipScreen }.spriteTile n y).x = (s.spriteTile n y).x

/-- Every background cell is drawn with the code, colour, flips and position of its rule, and distinct cells are drawn at
distinct positions, all inside `tmp`, so that the order of drawing does not matter (45_video_compositor R220). -/
def Obligations.BackgroundCellsDoNotOverlap : Prop :=
  ∀ (s : State) (n m x y : Nat), n < vramSize s → m < vramSize s →
    s.bgTile n = backgroundCell s n ∧
    ((s.bgTile n).covers s.cfg.geometry x y = true → x < s.cfg.geometry.tmpW ∧ y < s.cfg.geometry.tmpH) ∧
    ((s.bgTile n).covers s.cfg.geometry x y = true → (s.bgTile m).covers s.cfg.geometry x y = true → n = m)

/-! ## Miscellaneous registers and inputs -/

/-- `FAKE_RD`, `NOP_WR` and `ENV_INPORT` (46_misc_registers R241, R242; 60_exceptions R258). -/
def Obligations.ConstantReadNoEffectWriteAndInputs : Prop :=
  Operation .fakeRd 0x60000000
    (fun s => s.cfg.hasFake = true ∧ s.agent = .main) (fun s t => Returned s t 0xBF) ∧
  OnlyOn .fakeRd .tokio ∧
  ∀ (a : Offset) (v : Byte),
    Operation (.nopWr a v) (0x61#8 ++ a ++ v)
      (fun s => s.agent = .main ∨ s.agent = .sub ∨ s.agent = .sound) (fun s t => t = s) ∧
    Operation (.envInport a v) (0x71#8 ++ a ++ v)
      (fun s => s.agent = .env ∧ a.toNat ≤ 4)
      (fun s t => t = { s with inp := t.inp } ∧
        ∀ n, n < 5 → t.inp.toList.getD n 0 = if n = a.toNat then v else s.inp.toList.getD n 0)
end

