-- ==== Sys2Proof/Laws/Bitmap.lean ====
section
/-! SUPPORT. The laws of bitmaps: a pixel read after a pixel written, and what painting a rectangle and blitting a tile
do to every pixel. -/
namespace Sys2Proof.Machine

open Sys2Proof

variable {b : Bitmap} {w h : Nat}

theorem Bitmap.blank_sized (w h : Nat) : (Bitmap.blank w h).sized w h := by simp [Bitmap.blank, Bitmap.sized]

theorem Bitmap.put_sized (hb : b.sized w h) (x y : Nat) (p : Pixel) : (b.put x y p).sized w h := by
  unfold Bitmap.put
  split
  · exact ⟨hb.1, hb.2.1, by simp [hb.2.2]⟩
  · exact hb

/-- A pixel read after a pixel written. -/
theorem Bitmap.get_put (hb : b.sized w h) {x y : Nat} (hx : x < w) (hy : y < h) (p : Pixel) (u v : Nat)
    (hu : u < w) : (b.put x y p).get u v = if u = x ∧ v = y then p else b.get u v := by
  obtain ⟨hw, hh, hs⟩ := hb
  have hin : y * w + x < w * h := by
    calc y * w + x < y * w + w := by omega
      _ = w * (y + 1) := by ring
      _ ≤ w * h := Nat.mul_le_mul_left _ hy
  have hinj : (y * w + x = v * w + u) ↔ (u = x ∧ v = y) := by
    constructor
    · intro e
      have h1 : (y * w + x) % w = (v * w + u) % w := by rw [e]
      rw [Nat.mul_add_mod', Nat.mul_add_mod', Nat.mod_eq_of_lt hx, Nat.mod_eq_of_lt hu] at h1
      subst h1
      have hw0 : 0 < w := by omega
      exact ⟨rfl, (Nat.eq_of_mul_eq_mul_right hw0 (by omega)).symm⟩
    · rintro ⟨rfl, rfl⟩; rfl
  unfold Bitmap.put Bitmap.get
  rw [hw]
  simp only [hx, hu, if_true]
  rw [hw] at *
  simp only [Array.getD_eq_getD_getElem?, Array.getElem?_setIfInBounds, hinj]
  by_cases hc : u = x ∧ v = y
  · obtain ⟨rfl, rfl⟩ := hc
    simp [hs, hin]
  · simp [hc]

theorem Clip.mem_columns {c : Clip} {x : Nat} : x ∈ c.columns ↔ c.x0 ≤ x ∧ x ≤ c.x1 := by
  simp only [Clip.columns, List.mem_range'_1]
  omega

theorem Clip.mem_rows {c : Clip} {y : Nat} : y ∈ c.rows ↔ c.y0 ≤ y ∧ y ≤ c.y1 := by
  simp only [Clip.rows, List.mem_range'_1]
  omega

/-- Pixels put one after another, each at a position of its own colour: what a fold of puts does. -/
theorem Bitmap.get_foldl_put (colour : Nat → Nat → Pixel) (l : List (Nat × Nat)) {b : Bitmap} (hb : b.sized w h)
    (hl : ∀ q ∈ l, q.1 < w ∧ q.2 < h) {u : Nat} (hu : u < w) (v : Nat) :
    (l.foldl (fun d q => d.put q.1 q.2 (colour q.1 q.2)) b).sized w h ∧
      (l.foldl (fun d q => d.put q.1 q.2 (colour q.1 q.2)) b).get u v =
        if (u, v) ∈ l then colour u v else b.get u v := by
  induction l generalizing b with
  | nil => exact ⟨hb, by simp⟩
  | cons q t ih =>
    obtain ⟨hq, ht⟩ := List.forall_mem_cons.1 hl
    obtain ⟨h1, h2⟩ := ih (Bitmap.put_sized hb q.1 q.2 (colour q.1 q.2)) ht
    refine ⟨h1, ?_⟩
    rw [List.foldl_cons, h2, Bitmap.get_put hb hq.1 hq.2 _ u v hu]
    by_cases hm : (u, v) ∈ t
    · simp [hm]
    · by_cases he : (u, v) = q
      · subst he; simp
      · have : ¬(u = q.1 ∧ v = q.2) := fun ⟨a, c⟩ => he (by ext <;> simp [a, c])
        simp [hm, he, this]

theorem foldl_rows_columns {α : Type} (f : α → Nat → Nat → α) (rows cols : List Nat) (a : α) :
    rows.foldl (fun d y => cols.foldl (fun e x => f e x y) d) a =
      (rows.flatMap fun y => cols.map fun x => (x, y)).foldl (fun d q => f d q.1 q.2) a := by
  induction rows generalizing a with
  | nil => rfl
  | cons y t ih => simp [List.foldl_map, ih]

theorem Bitmap.paint_spec (hb : b.sized w h) {c : Clip} (hc : c.inside w h) (colour : Nat → Nat → Pixel) {u : Nat}
    (hu : u < w) (v : Nat) :
    (b.paint c colour).sized w h ∧
      (b.paint c colour).get u v = if c.holds u v then colour u v else b.get u v := by
  unfold Bitmap.paint
  rw [foldl_rows_columns (fun (e : Bitmap) x y => e.put x y (colour x y))]
  have hl : ∀ q ∈ c.rows.flatMap (fun y => c.columns.map fun x => (x, y)), q.1 < w ∧ q.2 < h := by
    intro q hq
    simp only [List.mem_flatMap, List.mem_map] at hq
    obtain ⟨y, hy, x, hx, rfl⟩ := hq
    have := Clip.mem_rows.1 hy
    have := Clip.mem_columns.1 hx
    have := hc.1
    have := hc.2
    exact ⟨by show x < w; omega, by show y < h; omega⟩
  obtain ⟨h1, h2⟩ := Bitmap.get_foldl_put colour _ hb hl hu v
  refine ⟨h1, h2.trans ?_⟩
  have hm : ((u, v) ∈ c.rows.flatMap fun y => c.columns.map fun x => (x, y)) ↔ c.holds u v = true := by
    simp only [List.mem_flatMap, List.mem_map, Prod.mk.injEq, Clip.mem_rows, Clip.mem_columns, Clip.holds,
      decide_eq_true_eq, Int.ofNat_le]
    constructor
    · rintro ⟨y, hy, x, hx, rfl, rfl⟩; exact ⟨hx.1, hx.2, hy.1, hy.2⟩
    · rintro ⟨a, b, c, d⟩; exact ⟨v, ⟨c, d⟩, u, ⟨a, b⟩, rfl, rfl⟩
  simp only [hm]

theorem Bitmap.paint_sized (hb : b.sized w h) {c : Clip} (hc : c.inside w h) (hw : 0 < w)
    (colour : Nat → Nat → Pixel) : (b.paint c colour).sized w h :=
  (Bitmap.paint_spec hb hc colour hw 0).1

/-- What painting a rectangle does to every pixel. -/
theorem Bitmap.get_paint (hb : b.sized w h) {c : Clip} (hc : c.inside w h) (colour : Nat → Nat → Pixel) {u : Nat}
    (hu : u < w) (v : Nat) :
    (b.paint c colour).get u v = if c.holds u v then colour u v else b.get u v :=
  (Bitmap.paint_spec hb hc colour hu v).2

/-! ## Blit -/

variable (geo : Geometry) (g : Gfx)

theorem blitPixel_sized (clip : Clip) (mode : BlitMode) (t : Tile) (hb : b.sized w h) (px py : Nat) :
    (blitPixel geo g clip mode t b px py).sized w h := by
  unfold blitPixel
  split
  · split
    · exact hb
    · exact Bitmap.put_sized hb _ _ _
  · exact hb

/-- One turn of the blit's loop: it writes the position of its own pixel or nothing. -/
theorem get_blitPixel {clip : Clip} (mode : BlitMode) (t : Tile) (hb : b.sized w h) (hc : clip.inside w h)
    (px py : Nat) {u : Nat} (hu : u < w) (v : Nat) :
    (blitPixel geo g clip mode t b px py).get u v =
      if (u : Int) = t.x + px ∧ (v : Int) = t.y + py ∧ clip.holds u v ∧
          ¬(mode = .pen ∧ t.pen geo g px py = geo.transparentPen t.set)
      then geo.colour g t.set t.color (t.pen geo g px py) else b.get u v := by
  unfold blitPixel
  by_cases hin : clip.holds (t.x + px) (t.y + py) = true
  · have hin' := hin
    simp only [Clip.holds, decide_eq_true_eq] at hin'
    obtain ⟨h1, h2, h3, h4⟩ := hin'
    obtain ⟨c1, c2⟩ := hc
    rw [if_pos hin]
    by_cases hp : mode = .pen ∧ t.pen geo g px py = geo.transparentPen t.set
    · simp [hp]
    · rw [if_neg hp, Bitmap.get_put hb (by omega) (by omega) _ u v hu]
      by_cases he : u = (t.x + px).toNat ∧ v = (t.y + py).toNat
      · have hx : (u : Int) = t.x + px := by omega
        have hy : (v : Int) = t.y + py := by omega
        rw [if_pos he, if_pos ⟨hx, hy, by rw [hx, hy]; exact hin, hp⟩]
      · rw [if_neg he, if_neg]
        rintro ⟨hx, hy, -⟩
        exact he ⟨by omega, by omega⟩
  · rw [if_neg hin, if_neg]
    rintro ⟨hx, hy, hh, -⟩
    exact hin (by rw [← hx, ← hy]; exact hh)

theorem foldl_blitPixel {clip : Clip} (mode : BlitMode) (t : Tile) (hc : clip.inside w h)
    (l : List (Nat × Nat)) {b : Bitmap} (hb : b.sized w h) {u : Nat} (hu : u < w) (v : Nat) :
    (l.foldl (fun d q => blitPixel geo g clip mode t d q.1 q.2) b).sized w h ∧
      (l.foldl (fun d q => blitPixel geo g clip mode t d q.1 q.2) b).get u v =
        if t.x ≤ u ∧ t.y ≤ v ∧ (((u : Int) - t.x).toNat, ((v : Int) - t.y).toNat) ∈ l ∧ clip.holds u v ∧
            ¬(mode = .pen ∧ t.penAt geo g u v = geo.transparentPen t.set)
        then geo.colour g t.set t.color (t.penAt geo g u v) else b.get u v := by
  induction l generalizing b with
  | nil => exact ⟨hb, by simp⟩
  | cons q r ih =>
    obtain ⟨h1, h2⟩ := ih (blitPixel_sized geo g clip mode t hb q.1 q.2)
    refine ⟨h1, ?_⟩
    have e := get_blitPixel geo g mode t hb hc q.1 q.2 hu v
    by_cases hq : (u : Int) = t.x + q.1 ∧ (v : Int) = t.y + q.2
    · have ex : ((u : Int) - t.x).toNat = q.1 := by omega
      have ey : ((v : Int) - t.y).toNat = q.2 := by omega
      have pe : t.penAt geo g u v = t.pen geo g q.1 q.2 := by rw [Tile.penAt, ex, ey]
      have hm : (((u : Int) - t.x).toNat, ((v : Int) - t.y).toNat) ∈ q :: r := by rw [ex, ey]; simp
      rw [pe] at h2 ⊢
      by_cases hh : clip.holds u v = true ∧ ¬(mode = .pen ∧ t.pen geo g q.1 q.2 = geo.transparentPen t.set)
      · rw [if_pos ⟨hq.1, hq.2, hh⟩] at e
        rw [List.foldl_cons, h2, e, ite_self, if_pos ⟨by omega, by omega, hm, hh⟩]
      · rw [if_neg fun z => hh z.2.2] at e
        rw [List.foldl_cons, h2, e, if_neg fun z => hh z.2.2.2, if_neg fun z => hh z.2.2.2]
    · have hn : ¬(t.x ≤ (u : Int) ∧ t.y ≤ (v : Int) ∧ (((u : Int) - t.x).toNat, ((v : Int) - t.y).toNat) = q) := by
        rintro ⟨a, c, e⟩
        have e1 : ((u : Int) - t.x).toNat = q.1 := congrArg Prod.fst e
        have e2 : ((v : Int) - t.y).toNat = q.2 := congrArg Prod.snd e
        exact hq ⟨by omega, by omega⟩
      rw [if_neg fun z => hq ⟨z.1, z.2.1⟩] at e
      rw [List.foldl_cons, h2, e]
      congr 1
      simp only [List.mem_cons, eq_iff_iff]
      constructor
      · rintro ⟨a, c, e, f⟩; exact ⟨a, c, .inr e, f⟩
      · rintro ⟨a, c, e | e, f⟩
        · exact absurd ⟨a, c, e⟩ hn
        · exact ⟨a, c, e, f⟩

theorem blit_spec {clip : Clip} (mode : BlitMode) (t : Tile) (hb : b.sized w h) (hc : clip.inside w h)
    {u : Nat} (hu : u < w) (v : Nat) :
    (blit geo g clip mode b t).sized w h ∧
      (blit geo g clip mode b t).get u v =
        if t.writes geo g clip mode u v then geo.colour g t.set t.color (t.penAt geo g u v) else b.get u v := by
  unfold blit
  rw [foldl_rows_columns (fun f px py => blitPixel geo g clip mode t f px py)]
  obtain ⟨h1, h2⟩ := foldl_blitPixel geo g mode t hc
    ((List.range (geo.edge t.set)).flatMap fun y => (List.range (geo.edge t.set)).map fun x => (x, y)) hb hu v
  refine ⟨h1, h2.trans ?_⟩
  congr 1
  simp only [Tile.writes, Tile.covers, List.mem_flatMap, List.mem_map, List.mem_range, Prod.mk.injEq,
    decide_eq_true_eq, eq_iff_iff]
  constructor
  · rintro ⟨a, c, ⟨y, hy, x, hx, ex, ey⟩, hh, hp⟩
    exact ⟨⟨a, by omega, c, by omega⟩, hh, hp⟩
  · rintro ⟨⟨a, a', c, c'⟩, hh, hp⟩
    exact ⟨a, c, ⟨_, by omega, _, by omega, rfl, rfl⟩, hh, hp⟩

theorem blit_sized {clip : Clip} (mode : BlitMode) (t : Tile) (hb : b.sized w h) (hc : clip.inside w h)
    (hw : 0 < w) : (blit geo g clip mode b t).sized w h :=
  (blit_spec geo g mode t hb hc hw 0).1

/-- What a blit does to every pixel: the positions the tile writes take the tile's colours, all others keep theirs
(45_video_compositor R216). -/
theorem get_blit {clip : Clip} (mode : BlitMode) (t : Tile) (hb : b.sized w h) (hc : clip.inside w h)
    {u : Nat} (hu : u < w) (v : Nat) :
    (blit geo g clip mode b t).get u v =
      if t.writes geo g clip mode u v then geo.colour g t.set t.color (t.penAt geo g u v) else b.get u v :=
  (blit_spec geo g mode t hb hc hu v).2

theorem blitAll_sized {clip : Clip} (mode : BlitMode) (ts : List Tile) {b : Bitmap} (hb : b.sized w h)
    (hc : clip.inside w h) (hw : 0 < w) : (blitAll geo g clip mode b ts).sized w h := by
  induction ts generalizing b with
  | nil => exact hb
  | cons t r ih => exact ih (blit_sized geo g mode t hb hc hw)

/-- A position no tile writes keeps its pixel. -/
theorem get_blitAll_of_not_written {clip : Clip} (mode : BlitMode) (ts : List Tile) {b : Bitmap}
    (hb : b.sized w h) (hc : clip.inside w h) {u : Nat} (hu : u < w) {v : Nat}
    (hn : ∀ t ∈ ts, t.writes geo g clip mode u v = false) : (blitAll geo g clip mode b ts).get u v = b.get u v := by
  induction ts generalizing b with
  | nil => rfl
  | cons t r ih =>
    obtain ⟨ht, hr⟩ := List.forall_mem_cons.1 hn
    have hw : 0 < w := by omega
    refine (ih (blit_sized geo g mode t hb hc hw) hr).trans ?_
    rw [get_blit geo g mode t hb hc hu v, ht]
    simp

/-- A blit list split at a tile whose position no later tile writes: the position shows that tile. -/
theorem get_blitAll_last {clip : Clip} (mode : BlitMode) (before after : List Tile) (t : Tile) {b : Bitmap}
    (hb : b.sized w h) (hc : clip.inside w h) {u : Nat} (hu : u < w) {v : Nat}
    (ht : t.writes geo g clip mode u v = true) (hn : ∀ a ∈ after, a.writes geo g clip mode u v = false) :
    (blitAll geo g clip mode b (before ++ t :: after)).get u v = geo.colour g t.set t.color (t.penAt geo g u v) := by
  have hw : 0 < w := by omega
  have hb' := blitAll_sized geo g mode before hb hc hw
  rw [blitAll, List.foldl_append, List.foldl_cons]
  refine (get_blitAll_of_not_written geo g mode after (blit_sized geo g mode t hb' hc hw) hc hu hn).trans ?_
  rw [get_blit geo g mode t hb' hc hu v, ht]
  simp

/-- All that a list of blits does to a position: the last tile that writes it decides its colour. -/
theorem get_blitAll {clip : Clip} (mode : BlitMode) (ts : List Tile) {b : Bitmap} (hb : b.sized w h)
    (hc : clip.inside w h) {u : Nat} (hu : u < w) {v : Nat} :
    (blitAll geo g clip mode b ts).get u v =
      match (ts.filter fun t => t.writes geo g clip mode u v).getLast? with
      | some t => geo.colour g t.set t.color (t.penAt geo g u v)
      | none => b.get u v := by
  have hw : 0 < w := by omega
  induction ts generalizing b with
  | nil => rfl
  | cons t r ih =>
    refine (ih (blit_sized geo g mode t hb hc hw)).trans ?_
    rw [get_blit geo g mode t hb hc hu v]
    cases ht : t.writes geo g clip mode u v with
    | false => simp [ht]
    | true =>
      cases hr : (r.filter fun t => t.writes geo g clip mode u v).getLast? <;> simp [ht, List.getLast?_cons, hr]

/-! ## The range of the pixels -/

theorem Bitmap.get_blank (w h x y : Nat) : (Bitmap.blank w h).get x y = 0 := by
  simp only [Bitmap.blank, Bitmap.get, Array.getD_eq_getD_getElem?, Array.getElem?_replicate]
  split
  · split <;> rfl
  · rfl

theorem Bitmap.blank_below {n : Nat} (hn : 0 < n) (w h : Nat) : (Bitmap.blank w h).Below n := fun x y => by
  rw [Bitmap.get_blank]; exact hn

theorem Bitmap.put_below {n p : Nat} (hb : b.Below n) (hp : p < n) (x y : Nat) : (b.put x y p).Below n := by
  intro u v
  have hg := hb u v
  unfold Bitmap.put
  split
  · simp only [Bitmap.get, Array.getD_eq_getD_getElem?, Array.getElem?_setIfInBounds] at hg ⊢
    split
    · split
      · split
        · exact hp
        · simpa using Nat.lt_of_le_of_lt (Nat.zero_le _) hp
      · next hu _ => simpa [hu] using hg
    · exact Nat.lt_of_le_of_lt (Nat.zero_le _) hp
  · exact hg

theorem Bitmap.foldl_below {α : Type} {n : Nat} (f : Bitmap → α → Bitmap) (l : List α)
    (hf : ∀ d a, d.Below n → (f d a).Below n) {d : Bitmap} (hd : d.Below n) : (l.foldl f d).Below n := by
  induction l generalizing d with
  | nil => exact hd
  | cons a t ih => exact ih (hf d a hd)

/-- Painting with indices of the palette leaves indices of the palette. -/
theorem Bitmap.paint_below {n : Nat} (c : Clip) (colour : Nat → Nat → Pixel) (hc : ∀ x y, colour x y < n)
    (hb : b.Below n) : (b.paint c colour).Below n :=
  Bitmap.foldl_below _ _ (fun _ y hd => Bitmap.foldl_below _ _ (fun _ x he => Bitmap.put_below he (hc x y) x y) hd) hb

/-- `CLUT` answers an index of the palette (45_video_compositor R214). -/
theorem Geometry.colour_lt (hn : 0 < geo.nColors) (set : GfxSet) (color pen : Nat) :
    geo.colour g set color pen < geo.nColors :=
  Nat.lt_of_lt_of_le (g.clut (geo.nColors - 1) set color pen).isLt (by omega)

/-- A blit leaves indices of the palette. -/
theorem blit_below (hn : 0 < geo.nColors) (clip : Clip) (mode : BlitMode) (t : Tile) (hb : b.Below geo.nColors) :
    (blit geo g clip mode b t).Below geo.nColors := by
  refine Bitmap.foldl_below _ _ (fun d py hd => Bitmap.foldl_below _ _ (fun e px he => ?_) hd) hb
  unfold blitPixel
  split
  · split
    · exact he
    · exact Bitmap.put_below he (Geometry.colour_lt geo g hn _ _ _) _ _
  · exact he

theorem blitAll_below (hn : 0 < geo.nColors) (clip : Clip) (mode : BlitMode) (ts : List Tile)
    (hb : b.Below geo.nColors) : (blitAll geo g clip mode b ts).Below geo.nColors :=
  Bitmap.foldl_below _ _ (fun _ t hd => blit_below geo g hn clip mode t hd) hb

end Sys2Proof.Machine
end

