-- ==== Sys2Proof/Laws/Decode.lean ====
section
/-! SUPPORT. The fields of a word and the word of the fields; the bytes of a word and the word of the bytes. -/
namespace Sys2Proof

@[simp] theorem opField_packWord (op : Byte) (a : Offset) (d : Byte) : opField (packWord op a d) = op := by
  apply BitVec.eq_of_getLsbD_eq
  intro i hi
  simp only [opField, packWord, BitVec.getLsbD_extractLsb', BitVec.getLsbD_append]
  simp [hi, show ¬(24 + i < 8) by omega, show ¬(24 + i - 8 < 16) by omega, show 24 + i - 8 - 16 = i by omega]

@[simp] theorem aField_packWord (op : Byte) (a : Offset) (d : Byte) : aField (packWord op a d) = a := by
  apply BitVec.eq_of_getLsbD_eq
  intro i hi
  simp only [aField, packWord, BitVec.getLsbD_extractLsb', BitVec.getLsbD_append]
  simp [hi]

@[simp] theorem dField_packWord (op : Byte) (a : Offset) (d : Byte) : dField (packWord op a d) = d := by
  apply BitVec.eq_of_getLsbD_eq
  intro i hi
  simp only [dField, packWord, BitVec.getLsbD_extractLsb', BitVec.getLsbD_append]
  simp [hi]

/-- A word is made of its three fields: no bit is outside them. -/
theorem packWord_fields (w : Word) : packWord (opField w) (aField w) (dField w) = w := by
  apply BitVec.eq_of_getLsbD_eq
  intro i hi
  simp only [opField, aField, dField, packWord, BitVec.getLsbD_extractLsb', BitVec.getLsbD_append]
  by_cases h1 : i < 8
  · simp [h1]
  · by_cases h2 : i - 8 < 16
    · simp [h1, h2, show 8 + (i - 8) = i by omega]
    · simp [h1, h2, show 24 + (i - 8 - 16) = i by omega, show i - 8 - 16 < 8 by omega]

/-- The decoder reads the fields it is given a word of. -/
theorem decode_packWord (op : Byte) (a : Offset) (d : Byte) : decode (packWord op a d) = decodeFields op a d := by
  simp [decode]

/-- A word laid out in its byte order and read again is the word. -/
@[simp] theorem wordOfBytes_extract (w : Word) :
    wordOfBytes (w.extractLsb' 24 8) (w.extractLsb' 16 8) (w.extractLsb' 8 8) (w.extractLsb' 0 8) = w := by
  apply BitVec.eq_of_getLsbD_eq
  intro i hi
  simp only [wordOfBytes, BitVec.getLsbD_extractLsb', BitVec.getLsbD_append]
  by_cases h1 : i < 8
  · simp [h1]
  · by_cases h2 : i - 8 < 8
    · simp [h1, h2, show 8 + (i - 8) = i by omega]
    · by_cases h3 : i - 8 - 8 < 8
      · simp [h1, h2, h3, show 16 + (i - 8 - 8) = i by omega]
      · simp [h1, h2, h3, show 24 + (i - 8 - 8 - 8) = i by omega, show i - 8 - 8 - 8 < 8 by omega]

/-- The decoder on the bytes of a word, with anything after them. -/
theorem decodeBytes_bytesOfWord (w : Word) (rest : List Byte) :
    decodeBytes (bytesOfWord w ++ rest) =
      match decode w with
      | .ok i => .ok (i, rest)
      | .error e => .error e := by
  show (match decode (wordOfBytes (w.extractLsb' 24 8) (w.extractLsb' 16 8) (w.extractLsb' 8 8) (w.extractLsb' 0 8)) with
    | .ok i => Except.ok (i, rest)
    | .error e => .error e) = _
  rw [wordOfBytes_extract]

end Sys2Proof
end

