-- ==== Sys2Proof/Laws/Memory.lean ====
section
/-! SUPPORT. The laws of a memory space: reading after a write, the canonical form and the bounds every write keeps. -/
namespace Sys2Proof.Machine

open Sys2Proof

variable {w : Nat}

@[simp] theorem Memory.read_nil (a : Nat) : Memory.read ([] : Memory w) a = 0 := rfl

theorem Memory.read_cons (c : Nat × BitVec w) (t : Memory w) (a : Nat) :
    Memory.read (c :: t) a = if c.1 = a then c.2 else Memory.read t a := rfl

theorem Memory.read_clear_same (m : Memory w) (a : Nat) : (m.clear a).read a = 0 := by
  induction m with
  | nil => rfl
  | cons c t ih =>
    by_cases h : c.1 = a
    · simpa [Memory.clear, h] using ih
    · simpa [Memory.clear, h, Memory.read_cons] using ih

theorem Memory.read_clear_other (m : Memory w) {a b : Nat} (h : b ≠ a) : (m.clear a).read b = m.read b := by
  induction m with
  | nil => rfl
  | cons c t ih =>
    by_cases hc : c.1 = a
    · have hb : c.1 ≠ b := fun e => h (e.symm.trans hc)
      simpa [Memory.clear, hc, Memory.read_cons, hb, h.symm] using ih
    · have e : Memory.clear (c :: t) a = c :: Memory.clear t a := by simp [Memory.clear, hc]
      rw [e, Memory.read_cons, Memory.read_cons, ih]

theorem Memory.read_place_same (m : Memory w) (a : Nat) (v : BitVec w) (h : ∀ c ∈ m, c.1 ≠ a) :
    (m.place a v).read a = v := by
  induction m with
  | nil => simp [Memory.place, Memory.read_cons]
  | cons c t ih =>
    have hc : c.1 ≠ a := h c (by simp)
    by_cases hl : a < c.1
    · simp [Memory.place, hl, Memory.read_cons]
    · simpa [Memory.place, hl, Memory.read_cons, hc] using ih fun d hd => h d (by simp [hd])

theorem Memory.read_place_other (m : Memory w) {a b : Nat} (v : BitVec w) (h : b ≠ a) :
    (m.place a v).read b = m.read b := by
  induction m with
  | nil => simp [Memory.place, Memory.read_cons, h.symm, Memory.read, Memory.unlisted]
  | cons c t ih =>
    by_cases hl : a < c.1
    · simp [Memory.place, hl, Memory.read_cons, h.symm]
    · simp [Memory.place, hl, Memory.read_cons, ih]

theorem Memory.mem_clear {m : Memory w} {a : Nat} {c : Nat × BitVec w} : c ∈ m.clear a ↔ c ∈ m ∧ c.1 ≠ a := by
  simp [Memory.clear]

theorem Memory.mem_place {m : Memory w} {a : Nat} {v : BitVec w} {c : Nat × BitVec w} :
    c ∈ m.place a v ↔ c = (a, v) ∨ c ∈ m := by
  induction m with
  | nil => simp [Memory.place]
  | cons d t ih =>
    by_cases hl : a < d.1
    · simp [Memory.place, hl]
    · simp only [Memory.place, hl, if_false, List.mem_cons, ih]
      tauto

/-- A read of the offset just written gives the byte written, in every space, canonical or not. -/
@[simp] theorem Memory.read_write_same (m : Memory w) (a : Nat) (v : BitVec w) : (m.write a v).read a = v := by
  unfold Memory.write
  split
  · next h => rw [Memory.read_clear_same, h, Memory.unlisted]
  · exact Memory.read_place_same _ _ _ fun c hc => (Memory.mem_clear.1 hc).2

/-- A write leaves every other offset alone. -/
theorem Memory.read_write_other (m : Memory w) {a b : Nat} (v : BitVec w) (h : b ≠ a) :
    (m.write a v).read b = m.read b := by
  unfold Memory.write
  split
  · exact Memory.read_clear_other m h
  · rw [Memory.read_place_other _ _ h, Memory.read_clear_other m h]

/-- What a read after a write gives, at any offset. -/
theorem Memory.read_write (m : Memory w) (a b : Nat) (v : BitVec w) :
    (m.write a v).read b = if b = a then v else m.read b := by
  by_cases h : b = a
  · simp [h]
  · simp [h, Memory.read_write_other m v h]

@[simp] theorem Memory.wf_nil : Memory.wf ([] : Memory w) := by simp [Memory.wf]

theorem Memory.wf_clear {m : Memory w} (h : m.wf) (a : Nat) : (m.clear a).wf :=
  ⟨h.1.filter _, fun c hc => h.2 c (Memory.mem_clear.1 hc).1⟩

theorem Memory.wf_place {m : Memory w} (h : m.wf) {a : Nat} (ha : ∀ c ∈ m, c.1 ≠ a) {v : BitVec w}
    (hv : v ≠ Memory.unlisted w) : (m.place a v).wf := by
  refine ⟨?_, fun c hc => ?_⟩
  · obtain ⟨hp, -⟩ := h
    induction m with
    | nil => simp [Memory.place]
    | cons c t ih =>
      obtain ⟨hc, ht⟩ := List.pairwise_cons.1 hp
      by_cases hl : a < c.1
      · simp only [Memory.place, hl, if_true]
        exact List.pairwise_cons.2 ⟨fun d hd => by
          rcases List.mem_cons.1 hd with rfl | hd
          · exact hl
          · exact hl.trans (hc d hd), hp⟩
      · simp only [Memory.place, hl, if_false]
        have hne := ha c (by simp)
        refine List.pairwise_cons.2 ⟨fun d hd => ?_, ih (fun d hd => ha d (by simp [hd])) ht⟩
        rcases Memory.mem_place.1 hd with rfl | hd
        · show c.1 < a
          omega
        · exact hc d hd
  · rcases Memory.mem_place.1 hc with rfl | hc
    · exact hv
    · exact h.2 c hc

/-- A write keeps the canonical form. -/
theorem Memory.wf_write {m : Memory w} (h : m.wf) (a : Nat) (v : BitVec w) : (m.write a v).wf := by
  unfold Memory.write
  split
  · exact Memory.wf_clear h a
  · next hv => exact Memory.wf_place (Memory.wf_clear h a) (fun c hc => (Memory.mem_clear.1 hc).2) hv

/-- A write inside a space keeps every listed offset inside it. -/
theorem Memory.within_write {m : Memory w} {n : Nat} (h : m.within n) {a : Nat} (ha : a < n) (v : BitVec w) :
    (m.write a v).within n := by
  intro c hc
  unfold Memory.write at hc
  split at hc
  · exact h c (Memory.mem_clear.1 hc).1
  · rcases Memory.mem_place.1 hc with rfl | hc
    · exact ha
    · exact h c (Memory.mem_clear.1 hc).1

/-- Machine-init leaves every space canonical. -/
theorem State.resetFor_memoriesCanonical (c : Cfg) : (State.resetFor c).MemoriesCanonical := by
  constructor <;> exact Memory.wf_nil

theorem State.reset_memoriesCanonical : State.reset.MemoriesCanonical :=
  State.resetFor_memoriesCanonical Config.shipped

/-- `Memory 8` is a list of the host's cells. -/
theorem Memory.byte_cells : Memory 8 = List Host.Cell := rfl

end Sys2Proof.Machine
end

