-- ==== Sys2Proof/Laws/State.lean ====
section
/-! SUPPORT. What each record update of the state does to each field. -/
namespace Sys2Proof.Machine

open Sys2Proof

variable (s : State)

/-! ## `State.reply` -/

@[simp] theorem State.reply_cfg (v : Byte) : (s.reply v).cfg = s.cfg := rfl
@[simp] theorem State.reply_portAOut (v : Byte) : (s.reply v).portAOut = s.portAOut := rfl
@[simp] theorem State.reply_portAIn (v : Byte) : (s.reply v).portAIn = s.portAIn := rfl
@[simp] theorem State.reply_ddrA (v : Byte) : (s.reply v).ddrA = s.ddrA := rfl
@[simp] theorem State.reply_portBOut (v : Byte) : (s.reply v).portBOut = s.portBOut := rfl
@[simp] theorem State.reply_ddrB (v : Byte) : (s.reply v).ddrB = s.ddrB := rfl
@[simp] theorem State.reply_address (v : Byte) : (s.reply v).address = s.address := rfl
@[simp] theorem State.reply_latch (v : Byte) : (s.reply v).latch = s.latch := rfl
@[simp] theorem State.reply_sndCmd (v : Byte) : (s.reply v).sndCmd = s.sndCmd := rfl
@[simp] theorem State.reply_nmiEnabled (v : Byte) : (s.reply v).nmiEnabled = s.nmiEnabled := rfl
@[simp] theorem State.reply_nmiPending (v : Byte) : (s.reply v).nmiPending = s.nmiPending := rfl
@[simp] theorem State.reply_bankIndex (v : Byte) : (s.reply v).bankIndex = s.bankIndex := rfl
@[simp] theorem State.reply_videoEnable (v : Byte) : (s.reply v).videoEnable = s.videoEnable := rfl
@[simp] theorem State.reply_flipScreen (v : Byte) : (s.reply v).flipScreen = s.flipScreen := rfl
@[simp] theorem State.reply_backScrollX (v : Byte) : (s.reply v).backScrollX = s.backScrollX := rfl
@[simp] theorem State.reply_backScrollYLo (v : Byte) : (s.reply v).backScrollYLo = s.backScrollYLo := rfl
@[simp] theorem State.reply_backScrollYHi (v : Byte) : (s.reply v).backScrollYHi = s.backScrollYHi := rfl
@[simp] theorem State.reply_paletteBank (v : Byte) : (s.reply v).paletteBank = s.paletteBank := rfl
@[simp] theorem State.reply_frontColor (v : Byte) : (s.reply v).frontColor = s.frontColor := rfl
@[simp] theorem State.reply_repaint (v : Byte) : (s.reply v).repaint = s.repaint := rfl
@[simp] theorem State.reply_dirty (v : Byte) : (s.reply v).dirty = s.dirty := rfl
@[simp] theorem State.reply_palette (v : Byte) : (s.reply v).palette = s.palette := rfl
@[simp] theorem State.reply_mcuIrqLine (v : Byte) : (s.reply v).mcuIrqLine = s.mcuIrqLine := rfl
@[simp] theorem State.reply_mainIrqPending (v : Byte) : (s.reply v).mainIrqPending = s.mainIrqPending := rfl
@[simp] theorem State.reply_mainIrqVector (v : Byte) : (s.reply v).mainIrqVector = s.mainIrqVector := rfl
@[simp] theorem State.reply_events (v : Byte) : (s.reply v).events = s.events := rfl
@[simp] theorem State.reply_sharedram1 (v : Byte) : (s.reply v).sharedram1 = s.sharedram1 := rfl
@[simp] theorem State.reply_sharedram2 (v : Byte) : (s.reply v).sharedram2 = s.sharedram2 := rfl
@[simp] theorem State.reply_sharedRam (v : Byte) : (s.reply v).sharedRam = s.sharedRam := rfl
@[simp] theorem State.reply_vram (v : Byte) : (s.reply v).vram = s.vram := rfl
@[simp] theorem State.reply_cram (v : Byte) : (s.reply v).cram = s.cram := rfl
@[simp] theorem State.reply_objram (v : Byte) : (s.reply v).objram = s.objram := rfl
@[simp] theorem State.reply_objxram (v : Byte) : (s.reply v).objxram = s.objxram := rfl
@[simp] theorem State.reply_fgram (v : Byte) : (s.reply v).fgram = s.fgram := rfl
@[simp] theorem State.reply_tmp (v : Byte) : (s.reply v).tmp = s.tmp := rfl
@[simp] theorem State.reply_fb (v : Byte) : (s.reply v).fb = s.fb := rfl
@[simp] theorem State.reply_inp (v : Byte) : (s.reply v).inp = s.inp := rfl
@[simp] theorem State.reply_script (v : Byte) : (s.reply v).script = s.script := rfl
@[simp] theorem State.reply_agent (v : Byte) : (s.reply v).agent = s.agent := rfl
@[simp] theorem State.reply_ret (v : Byte) : (s.reply v).ret = some v := rfl
@[simp] theorem State.reply_draws (v : Byte) : (s.reply v).draws = s.draws := rfl

/-! ## `State.emit` -/

@[simp] theorem State.emit_cfg (e : Event) : (s.emit e).cfg = s.cfg := rfl
@[simp] theorem State.emit_portAOut (e : Event) : (s.emit e).portAOut = s.portAOut := rfl
@[simp] theorem State.emit_portAIn (e : Event) : (s.emit e).portAIn = s.portAIn := rfl
@[simp] theorem State.emit_ddrA (e : Event) : (s.emit e).ddrA = s.ddrA := rfl
@[simp] theorem State.emit_portBOut (e : Event) : (s.emit e).portBOut = s.portBOut := rfl
@[simp] theorem State.emit_ddrB (e : Event) : (s.emit e).ddrB = s.ddrB := rfl
@[simp] theorem State.emit_address (e : Event) : (s.emit e).address = s.address := rfl
@[simp] theorem State.emit_latch (e : Event) : (s.emit e).latch = s.latch := rfl
@[simp] theorem State.emit_sndCmd (e : Event) : (s.emit e).sndCmd = s.sndCmd := rfl
@[simp] theorem State.emit_nmiEnabled (e : Event) : (s.emit e).nmiEnabled = s.nmiEnabled := rfl
@[simp] theorem State.emit_nmiPending (e : Event) : (s.emit e).nmiPending = s.nmiPending := rfl
@[simp] theorem State.emit_bankIndex (e : Event) : (s.emit e).bankIndex = s.bankIndex := rfl
@[simp] theorem State.emit_videoEnable (e : Event) : (s.emit e).videoEnable = s.videoEnable := rfl
@[simp] theorem State.emit_flipScreen (e : Event) : (s.emit e).flipScreen = s.flipScreen := rfl
@[simp] theorem State.emit_backScrollX (e : Event) : (s.emit e).backScrollX = s.backScrollX := rfl
@[simp] theorem State.emit_backScrollYLo (e : Event) : (s.emit e).backScrollYLo = s.backScrollYLo := rfl
@[simp] theorem State.emit_backScrollYHi (e : Event) : (s.emit e).backScrollYHi = s.backScrollYHi := rfl
@[simp] theorem State.emit_paletteBank (e : Event) : (s.emit e).paletteBank = s.paletteBank := rfl
@[simp] theorem State.emit_frontColor (e : Event) : (s.emit e).frontColor = s.frontColor := rfl
@[simp] theorem State.emit_repaint (e : Event) : (s.emit e).repaint = s.repaint := rfl
@[simp] theorem State.emit_dirty (e : Event) : (s.emit e).dirty = s.dirty := rfl
@[simp] theorem State.emit_palette (e : Event) : (s.emit e).palette = s.palette := rfl
@[simp] theorem State.emit_mcuIrqLine (e : Event) : (s.emit e).mcuIrqLine = s.mcuIrqLine := rfl
@[simp] theorem State.emit_mainIrqPending (e : Event) : (s.emit e).mainIrqPending = s.mainIrqPending := rfl
@[simp] theorem State.emit_mainIrqVector (e : Event) : (s.emit e).mainIrqVector = s.mainIrqVector := rfl
@[simp] theorem State.emit_events (e : Event) : (s.emit e).events = s.events ++ [e] := rfl
@[simp] theorem State.emit_sharedram1 (e : Event) : (s.emit e).sharedram1 = s.sharedram1 := rfl
@[simp] theorem State.emit_sharedram2 (e : Event) : (s.emit e).sharedram2 = s.sharedram2 := rfl
@[simp] theorem State.emit_sharedRam (e : Event) : (s.emit e).sharedRam = s.sharedRam := rfl
@[simp] theorem State.emit_vram (e : Event) : (s.emit e).vram = s.vram := rfl
@[simp] theorem State.emit_cram (e : Event) : (s.emit e).cram = s.cram := rfl
@[simp] theorem State.emit_objram (e : Event) : (s.emit e).objram = s.objram := rfl
@[simp] theorem State.emit_objxram (e : Event) : (s.emit e).objxram = s.objxram := rfl
@[simp] theorem State.emit_fgram (e : Event) : (s.emit e).fgram = s.fgram := rfl
@[simp] theorem State.emit_tmp (e : Event) : (s.emit e).tmp = s.tmp := rfl
@[simp] theorem State.emit_fb (e : Event) : (s.emit e).fb = s.fb := rfl
@[simp] theorem State.emit_inp (e : Event) : (s.emit e).inp = s.inp := rfl
@[simp] theorem State.emit_script (e : Event) : (s.emit e).script = s.script := rfl
@[simp] theorem State.emit_agent (e : Event) : (s.emit e).agent = s.agent := rfl
@[simp] theorem State.emit_ret (e : Event) : (s.emit e).ret = s.ret := rfl
@[simp] theorem State.emit_draws (e : Event) : (s.emit e).draws = s.draws := rfl

/-! ## `State.markCell` -/

@[simp] theorem State.markCell_cfg (n : Nat) : (s.markCell n).cfg = s.cfg := rfl
@[simp] theorem State.markCell_portAOut (n : Nat) : (s.markCell n).portAOut = s.portAOut := rfl
@[simp] theorem State.markCell_portAIn (n : Nat) : (s.markCell n).portAIn = s.portAIn := rfl
@[simp] theorem State.markCell_ddrA (n : Nat) : (s.markCell n).ddrA = s.ddrA := rfl
@[simp] theorem State.markCell_portBOut (n : Nat) : (s.markCell n).portBOut = s.portBOut := rfl
@[simp] theorem State.markCell_ddrB (n : Nat) : (s.markCell n).ddrB = s.ddrB := rfl
@[simp] theorem State.markCell_address (n : Nat) : (s.markCell n).address = s.address := rfl
@[simp] theorem State.markCell_latch (n : Nat) : (s.markCell n).latch = s.latch := rfl
@[simp] theorem State.markCell_sndCmd (n : Nat) : (s.markCell n).sndCmd = s.sndCmd := rfl
@[simp] theorem State.markCell_nmiEnabled (n : Nat) : (s.markCell n).nmiEnabled = s.nmiEnabled := rfl
@[simp] theorem State.markCell_nmiPending (n : Nat) : (s.markCell n).nmiPending = s.nmiPending := rfl
@[simp] theorem State.markCell_bankIndex (n : Nat) : (s.markCell n).bankIndex = s.bankIndex := rfl
@[simp] theorem State.markCell_videoEnable (n : Nat) : (s.markCell n).videoEnable = s.videoEnable := rfl
@[simp] theorem State.markCell_flipScreen (n : Nat) : (s.markCell n).flipScreen = s.flipScreen := rfl
@[simp] theorem State.markCell_backScrollX (n : Nat) : (s.markCell n).backScrollX = s.backScrollX := rfl
@[simp] theorem State.markCell_backScrollYLo (n : Nat) : (s.markCell n).backScrollYLo = s.backScrollYLo := rfl
@[simp] theorem State.markCell_backScrollYHi (n : Nat) : (s.markCell n).backScrollYHi = s.backScrollYHi := rfl
@[simp] theorem State.markCell_paletteBank (n : Nat) : (s.markCell n).paletteBank = s.paletteBank := rfl
@[simp] theorem State.markCell_frontColor (n : Nat) : (s.markCell n).frontColor = s.frontColor := rfl
@[simp] theorem State.markCell_repaint (n : Nat) : (s.markCell n).repaint = s.repaintOnMark := rfl
@[simp] theorem State.markCell_dirty (n : Nat) : (s.markCell n).dirty = markIn n s.dirty := rfl
@[simp] theorem State.markCell_palette (n : Nat) : (s.markCell n).palette = s.palette := rfl
@[simp] theorem State.markCell_mcuIrqLine (n : Nat) : (s.markCell n).mcuIrqLine = s.mcuIrqLine := rfl
@[simp] theorem State.markCell_mainIrqPending (n : Nat) : (s.markCell n).mainIrqPending = s.mainIrqPending := rfl
@[simp] theorem State.markCell_mainIrqVector (n : Nat) : (s.markCell n).mainIrqVector = s.mainIrqVector := rfl
@[simp] theorem State.markCell_events (n : Nat) : (s.markCell n).events = s.events := rfl
@[simp] theorem State.markCell_sharedram1 (n : Nat) : (s.markCell n).sharedram1 = s.sharedram1 := rfl
@[simp] theorem State.markCell_sharedram2 (n : Nat) : (s.markCell n).sharedram2 = s.sharedram2 := rfl
@[simp] theorem State.markCell_sharedRam (n : Nat) : (s.markCell n).sharedRam = s.sharedRam := rfl
@[simp] theorem State.markCell_vram (n : Nat) : (s.markCell n).vram = s.vram := rfl
@[simp] theorem State.markCell_cram (n : Nat) : (s.markCell n).cram = s.cram := rfl
@[simp] theorem State.markCell_objram (n : Nat) : (s.markCell n).objram = s.objram := rfl
@[simp] theorem State.markCell_objxram (n : Nat) : (s.markCell n).objxram = s.objxram := rfl
@[simp] theorem State.markCell_fgram (n : Nat) : (s.markCell n).fgram = s.fgram := rfl
@[simp] theorem State.markCell_tmp (n : Nat) : (s.markCell n).tmp = s.tmp := rfl
@[simp] theorem State.markCell_fb (n : Nat) : (s.markCell n).fb = s.fb := rfl
@[simp] theorem State.markCell_inp (n : Nat) : (s.markCell n).inp = s.inp := rfl
@[simp] theorem State.markCell_script (n : Nat) : (s.markCell n).script = s.script := rfl
@[simp] theorem State.markCell_agent (n : Nat) : (s.markCell n).agent = s.agent := rfl
@[simp] theorem State.markCell_ret (n : Nat) : (s.markCell n).ret = s.ret := rfl
@[simp] theorem State.markCell_draws (n : Nat) : (s.markCell n).draws = s.draws := rfl

/-! ## `State.markAllDirty` -/

@[simp] theorem State.markAllDirty_cfg : (s.markAllDirty).cfg = s.cfg := rfl
@[simp] theorem State.markAllDirty_portAOut : (s.markAllDirty).portAOut = s.portAOut := rfl
@[simp] theorem State.markAllDirty_portAIn : (s.markAllDirty).portAIn = s.portAIn := rfl
@[simp] theorem State.markAllDirty_ddrA : (s.markAllDirty).ddrA = s.ddrA := rfl
@[simp] theorem State.markAllDirty_portBOut : (s.markAllDirty).portBOut = s.portBOut := rfl
@[simp] theorem State.markAllDirty_ddrB : (s.markAllDirty).ddrB = s.ddrB := rfl
@[simp] theorem State.markAllDirty_address : (s.markAllDirty).address = s.address := rfl
@[simp] theorem State.markAllDirty_latch : (s.markAllDirty).latch = s.latch := rfl
@[simp] theorem State.markAllDirty_sndCmd : (s.markAllDirty).sndCmd = s.sndCmd := rfl
@[simp] theorem State.markAllDirty_nmiEnabled : (s.markAllDirty).nmiEnabled = s.nmiEnabled := rfl
@[simp] theorem State.markAllDirty_nmiPending : (s.markAllDirty).nmiPending = s.nmiPending := rfl
@[simp] theorem State.markAllDirty_bankIndex : (s.markAllDirty).bankIndex = s.bankIndex := rfl
@[simp] theorem State.markAllDirty_videoEnable : (s.markAllDirty).videoEnable = s.videoEnable := rfl
@[simp] theorem State.markAllDirty_flipScreen : (s.markAllDirty).flipScreen = s.flipScreen := rfl
@[simp] theorem State.markAllDirty_backScrollX : (s.markAllDirty).backScrollX = s.backScrollX := rfl
@[simp] theorem State.markAllDirty_backScrollYLo : (s.markAllDirty).backScrollYLo = s.backScrollYLo := rfl
@[simp] theorem State.markAllDirty_backScrollYHi : (s.markAllDirty).backScrollYHi = s.backScrollYHi := rfl
@[simp] theorem State.markAllDirty_paletteBank : (s.markAllDirty).paletteBank = s.paletteBank := rfl
@[simp] theorem State.markAllDirty_frontColor : (s.markAllDirty).frontColor = s.frontColor := rfl
@[simp] theorem State.markAllDirty_repaint : (s.markAllDirty).repaint = s.repaintOnMark := rfl
@[simp] theorem State.markAllDirty_dirty : (s.markAllDirty).dirty = List.range s.cfg.geometry.vramSize := rfl
@[simp] theorem State.markAllDirty_palette : (s.markAllDirty).palette = s.palette := rfl
@[simp] theorem State.markAllDirty_mcuIrqLine : (s.markAllDirty).mcuIrqLine = s.mcuIrqLine := rfl
@[simp] theorem State.markAllDirty_mainIrqPending : (s.markAllDirty).mainIrqPending = s.mainIrqPending := rfl
@[simp] theorem State.markAllDirty_mainIrqVector : (s.markAllDirty).mainIrqVector = s.mainIrqVector := rfl
@[simp] theorem State.markAllDirty_events : (s.markAllDirty).events = s.events := rfl
@[simp] theorem State.markAllDirty_sharedram1 : (s.markAllDirty).sharedram1 = s.sharedram1 := rfl
@[simp] theorem State.markAllDirty_sharedram2 : (s.markAllDirty).sharedram2 = s.sharedram2 := rfl
@[simp] theorem State.markAllDirty_sharedRam : (s.markAllDirty).sharedRam = s.sharedRam := rfl
@[simp] theorem State.markAllDirty_vram : (s.markAllDirty).vram = s.vram := rfl
@[simp] theorem State.markAllDirty_cram : (s.markAllDirty).cram = s.cram := rfl
@[simp] theorem State.markAllDirty_objram : (s.markAllDirty).objram = s.objram := rfl
@[simp] theorem State.markAllDirty_objxram : (s.markAllDirty).objxram = s.objxram := rfl
@[simp] theorem State.markAllDirty_fgram : (s.markAllDirty).fgram = s.fgram := rfl
@[simp] theorem State.markAllDirty_tmp : (s.markAllDirty).tmp = s.tmp := rfl
@[simp] theorem State.markAllDirty_fb : (s.markAllDirty).fb = s.fb := rfl
@[simp] theorem State.markAllDirty_inp : (s.markAllDirty).inp = s.inp := rfl
@[simp] theorem State.markAllDirty_script : (s.markAllDirty).script = s.script := rfl
@[simp] theorem State.markAllDirty_agent : (s.markAllDirty).agent = s.agent := rfl
@[simp] theorem State.markAllDirty_ret : (s.markAllDirty).ret = s.ret := rfl
@[simp] theorem State.markAllDirty_draws : (s.markAllDirty).draws = s.draws := rfl

/-! ## `State.deliver` -/

@[simp] theorem State.deliver_cfg : (s.deliver).cfg = s.cfg := rfl
@[simp] theorem State.deliver_portAOut : (s.deliver).portAOut = s.portAOut := rfl
@[simp] theorem State.deliver_portAIn : (s.deliver).portAIn = s.latch := rfl
@[simp] theorem State.deliver_ddrA : (s.deliver).ddrA = s.ddrA := rfl
@[simp] theorem State.deliver_portBOut : (s.deliver).portBOut = s.portBOut := rfl
@[simp] theorem State.deliver_ddrB : (s.deliver).ddrB = s.ddrB := rfl
@[simp] theorem State.deliver_address : (s.deliver).address = s.address := rfl
@[simp] theorem State.deliver_latch : (s.deliver).latch = s.latch := rfl
@[simp] theorem State.deliver_sndCmd : (s.deliver).sndCmd = s.sndCmd := rfl
@[simp] theorem State.deliver_nmiEnabled : (s.deliver).nmiEnabled = s.nmiEnabled := rfl
@[simp] theorem State.deliver_nmiPending : (s.deliver).nmiPending = s.nmiPending := rfl
@[simp] theorem State.deliver_bankIndex : (s.deliver).bankIndex = s.bankIndex := rfl
@[simp] theorem State.deliver_videoEnable : (s.deliver).videoEnable = s.videoEnable := rfl
@[simp] theorem State.deliver_flipScreen : (s.deliver).flipScreen = s.flipScreen := rfl
@[simp] theorem State.deliver_backScrollX : (s.deliver).backScrollX = s.backScrollX := rfl
@[simp] theorem State.deliver_backScrollYLo : (s.deliver).backScrollYLo = s.backScrollYLo := rfl
@[simp] theorem State.deliver_backScrollYHi : (s.deliver).backScrollYHi = s.backScrollYHi := rfl
@[simp] theorem State.deliver_paletteBank : (s.deliver).paletteBank = s.paletteBank := rfl
@[simp] theorem State.deliver_frontColor : (s.deliver).frontColor = s.frontColor := rfl
@[simp] theorem State.deliver_repaint : (s.deliver).repaint = s.repaint := rfl
@[simp] theorem State.deliver_dirty : (s.deliver).dirty = s.dirty := rfl
@[simp] theorem State.deliver_palette : (s.deliver).palette = s.palette := rfl
@[simp] theorem State.deliver_mcuIrqLine : (s.deliver).mcuIrqLine = s.mcuIrqLine := rfl
@[simp] theorem State.deliver_mainIrqPending : (s.deliver).mainIrqPending = s.mainIrqPending := rfl
@[simp] theorem State.deliver_mainIrqVector : (s.deliver).mainIrqVector = s.mainIrqVector := rfl
@[simp] theorem State.deliver_events : (s.deliver).events = s.events := rfl
@[simp] theorem State.deliver_sharedram1 : (s.deliver).sharedram1 = s.sharedram1 := rfl
@[simp] theorem State.deliver_sharedram2 : (s.deliver).sharedram2 = s.sharedram2 := rfl
@[simp] theorem State.deliver_sharedRam : (s.deliver).sharedRam = s.sharedRam := rfl
@[simp] theorem State.deliver_vram : (s.deliver).vram = s.vram := rfl
@[simp] theorem State.deliver_cram : (s.deliver).cram = s.cram := rfl
@[simp] theorem State.deliver_objram : (s.deliver).objram = s.objram := rfl
@[simp] theorem State.deliver_objxram : (s.deliver).objxram = s.objxram := rfl
@[simp] theorem State.deliver_fgram : (s.deliver).fgram = s.fgram := rfl
@[simp] theorem State.deliver_tmp : (s.deliver).tmp = s.tmp := rfl
@[simp] theorem State.deliver_fb : (s.deliver).fb = s.fb := rfl
@[simp] theorem State.deliver_inp : (s.deliver).inp = s.inp := rfl
@[simp] theorem State.deliver_script : (s.deliver).script = s.script := rfl
@[simp] theorem State.deliver_agent : (s.deliver).agent = s.agent := rfl
@[simp] theorem State.deliver_ret : (s.deliver).ret = s.ret := rfl
@[simp] theorem State.deliver_draws : (s.deliver).draws = s.draws := rfl

/-! ## `State.loadAddrLow` -/

@[simp] theorem State.loadAddrLow_cfg : (s.loadAddrLow).cfg = s.cfg := rfl
@[simp] theorem State.loadAddrLow_portAOut : (s.loadAddrLow).portAOut = s.portAOut := rfl
@[simp] theorem State.loadAddrLow_portAIn : (s.loadAddrLow).portAIn = s.portAIn := rfl
@[simp] theorem State.loadAddrLow_ddrA : (s.loadAddrLow).ddrA = s.ddrA := rfl
@[simp] theorem State.loadAddrLow_portBOut : (s.loadAddrLow).portBOut = s.portBOut := rfl
@[simp] theorem State.loadAddrLow_ddrB : (s.loadAddrLow).ddrB = s.ddrB := rfl
@[simp] theorem State.loadAddrLow_address : (s.loadAddrLow).address = (s.address &&& 0xFF00) ||| s.portAOut.setWidth 16 := rfl
@[simp] theorem State.loadAddrLow_latch : (s.loadAddrLow).latch = s.latch := rfl
@[simp] theorem State.loadAddrLow_sndCmd : (s.loadAddrLow).sndCmd = s.sndCmd := rfl
@[simp] theorem State.loadAddrLow_nmiEnabled : (s.loadAddrLow).nmiEnabled = s.nmiEnabled := rfl
@[simp] theorem State.loadAddrLow_nmiPending : (s.loadAddrLow).nmiPending = s.nmiPending := rfl
@[simp] theorem State.loadAddrLow_bankIndex : (s.loadAddrLow).bankIndex = s.bankIndex := rfl
@[simp] theorem State.loadAddrLow_videoEnable : (s.loadAddrLow).videoEnable = s.videoEnable := rfl
@[simp] theorem State.loadAddrLow_flipScreen : (s.loadAddrLow).flipScreen = s.flipScreen := rfl
@[simp] theorem State.loadAddrLow_backScrollX : (s.loadAddrLow).backScrollX = s.backScrollX := rfl
@[simp] theorem State.loadAddrLow_backScrollYLo : (s.loadAddrLow).backScrollYLo = s.backScrollYLo := rfl
@[simp] theorem State.loadAddrLow_backScrollYHi : (s.loadAddrLow).backScrollYHi = s.backScrollYHi := rfl
@[simp] theorem State.loadAddrLow_paletteBank : (s.loadAddrLow).paletteBank = s.paletteBank := rfl
@[simp] theorem State.loadAddrLow_frontColor : (s.loadAddrLow).frontColor = s.frontColor := rfl
@[simp] theorem State.loadAddrLow_repaint : (s.loadAddrLow).repaint = s.repaint := rfl
@[simp] theorem State.loadAddrLow_dirty : (s.loadAddrLow).dirty = s.dirty := rfl
@[simp] theorem State.loadAddrLow_palette : (s.loadAddrLow).palette = s.palette := rfl
@[simp] theorem State.loadAddrLow_mcuIrqLine : (s.loadAddrLow).mcuIrqLine = s.mcuIrqLine := rfl
@[simp] theorem State.loadAddrLow_mainIrqPending : (s.loadAddrLow).mainIrqPending = s.mainIrqPending := rfl
@[simp] theorem State.loadAddrLow_mainIrqVector : (s.loadAddrLow).mainIrqVector = s.mainIrqVector := rfl
@[simp] theorem State.loadAddrLow_events : (s.loadAddrLow).events = s.events := rfl
@[simp] theorem State.loadAddrLow_sharedram1 : (s.loadAddrLow).sharedram1 = s.sharedram1 := rfl
@[simp] theorem State.loadAddrLow_sharedram2 : (s.loadAddrLow).sharedram2 = s.sharedram2 := rfl
@[simp] theorem State.loadAddrLow_sharedRam : (s.loadAddrLow).sharedRam = s.sharedRam := rfl
@[simp] theorem State.loadAddrLow_vram : (s.loadAddrLow).vram = s.vram := rfl
@[simp] theorem State.loadAddrLow_cram : (s.loadAddrLow).cram = s.cram := rfl
@[simp] theorem State.loadAddrLow_objram : (s.loadAddrLow).objram = s.objram := rfl
@[simp] theorem State.loadAddrLow_objxram : (s.loadAddrLow).objxram = s.objxram := rfl
@[simp] theorem State.loadAddrLow_fgram : (s.loadAddrLow).fgram = s.fgram := rfl
@[simp] theorem State.loadAddrLow_tmp : (s.loadAddrLow).tmp = s.tmp := rfl
@[simp] theorem State.loadAddrLow_fb : (s.loadAddrLow).fb = s.fb := rfl
@[simp] theorem State.loadAddrLow_inp : (s.loadAddrLow).inp = s.inp := rfl
@[simp] theorem State.loadAddrLow_script : (s.loadAddrLow).script = s.script := rfl
@[simp] theorem State.loadAddrLow_agent : (s.loadAddrLow).agent = s.agent := rfl
@[simp] theorem State.loadAddrLow_ret : (s.loadAddrLow).ret = s.ret := rfl
@[simp] theorem State.loadAddrLow_draws : (s.loadAddrLow).draws = s.draws := rfl

/-! ## `State.loadAddrHigh` -/

@[simp] theorem State.loadAddrHigh_cfg : (s.loadAddrHigh).cfg = s.cfg := rfl
@[simp] theorem State.loadAddrHigh_portAOut : (s.loadAddrHigh).portAOut = s.portAOut := rfl
@[simp] theorem State.loadAddrHigh_portAIn : (s.loadAddrHigh).portAIn = s.portAIn := rfl
@[simp] theorem State.loadAddrHigh_ddrA : (s.loadAddrHigh).ddrA = s.ddrA := rfl
@[simp] theorem State.loadAddrHigh_portBOut : (s.loadAddrHigh).portBOut = s.portBOut := rfl
@[simp] theorem State.loadAddrHigh_ddrB : (s.loadAddrHigh).ddrB = s.ddrB := rfl
@[simp] theorem State.loadAddrHigh_address : (s.loadAddrHigh).address = (s.address &&& 0x00FF) ||| ((s.portAOut &&& 0x0F).setWidth 16 <<< 8) := rfl
@[simp] theorem State.loadAddrHigh_latch : (s.loadAddrHigh).latch = s.latch := rfl
@[simp] theorem State.loadAddrHigh_sndCmd : (s.loadAddrHigh).sndCmd = s.sndCmd := rfl
@[simp] theorem State.loadAddrHigh_nmiEnabled : (s.loadAddrHigh).nmiEnabled = s.nmiEnabled := rfl
@[simp] theorem State.loadAddrHigh_nmiPending : (s.loadAddrHigh).nmiPending = s.nmiPending := rfl
@[simp] theorem State.loadAddrHigh_bankIndex : (s.loadAddrHigh).bankIndex = s.bankIndex := rfl
@[simp] theorem State.loadAddrHigh_videoEnable : (s.loadAddrHigh).videoEnable = s.videoEnable := rfl
@[simp] theorem State.loadAddrHigh_flipScreen : (s.loadAddrHigh).flipScreen = s.flipScreen := rfl
@[simp] theorem State.loadAddrHigh_backScrollX : (s.loadAddrHigh).backScrollX = s.backScrollX := rfl
@[simp] theorem State.loadAddrHigh_backScrollYLo : (s.loadAddrHigh).backScrollYLo = s.backScrollYLo := rfl
@[simp] theorem State.loadAddrHigh_backScrollYHi : (s.loadAddrHigh).backScrollYHi = s.backScrollYHi := rfl
@[simp] theorem State.loadAddrHigh_paletteBank : (s.loadAddrHigh).paletteBank = s.paletteBank := rfl
@[simp] theorem State.loadAddrHigh_frontColor : (s.loadAddrHigh).frontColor = s.frontColor := rfl
@[simp] theorem State.loadAddrHigh_repaint : (s.loadAddrHigh).repaint = s.repaint := rfl
@[simp] theorem State.loadAddrHigh_dirty : (s.loadAddrHigh).dirty = s.dirty := rfl
@[simp] theorem State.loadAddrHigh_palette : (s.loadAddrHigh).palette = s.palette := rfl
@[simp] theorem State.loadAddrHigh_mcuIrqLine : (s.loadAddrHigh).mcuIrqLine = s.mcuIrqLine := rfl
@[simp] theorem State.loadAddrHigh_mainIrqPending : (s.loadAddrHigh).mainIrqPending = s.mainIrqPending := rfl
@[simp] theorem State.loadAddrHigh_mainIrqVector : (s.loadAddrHigh).mainIrqVector = s.mainIrqVector := rfl
@[simp] theorem State.loadAddrHigh_events : (s.loadAddrHigh).events = s.events := rfl
@[simp] theorem State.loadAddrHigh_sharedram1 : (s.loadAddrHigh).sharedram1 = s.sharedram1 := rfl
@[simp] theorem State.loadAddrHigh_sharedram2 : (s.loadAddrHigh).sharedram2 = s.sharedram2 := rfl
@[simp] theorem State.loadAddrHigh_sharedRam : (s.loadAddrHigh).sharedRam = s.sharedRam := rfl
@[simp] theorem State.loadAddrHigh_vram : (s.loadAddrHigh).vram = s.vram := rfl
@[simp] theorem State.loadAddrHigh_cram : (s.loadAddrHigh).cram = s.cram := rfl
@[simp] theorem State.loadAddrHigh_objram : (s.loadAddrHigh).objram = s.objram := rfl
@[simp] theorem State.loadAddrHigh_objxram : (s.loadAddrHigh).objxram = s.objxram := rfl
@[simp] theorem State.loadAddrHigh_fgram : (s.loadAddrHigh).fgram = s.fgram := rfl
@[simp] theorem State.loadAddrHigh_tmp : (s.loadAddrHigh).tmp = s.tmp := rfl
@[simp] theorem State.loadAddrHigh_fb : (s.loadAddrHigh).fb = s.fb := rfl
@[simp] theorem State.loadAddrHigh_inp : (s.loadAddrHigh).inp = s.inp := rfl
@[simp] theorem State.loadAddrHigh_script : (s.loadAddrHigh).script = s.script := rfl
@[simp] theorem State.loadAddrHigh_agent : (s.loadAddrHigh).agent = s.agent := rfl
@[simp] theorem State.loadAddrHigh_ret : (s.loadAddrHigh).ret = s.ret := rfl
@[simp] theorem State.loadAddrHigh_draws : (s.loadAddrHigh).draws = s.draws := rfl

/-! ## `State.raiseMainIrqWith` -/

@[simp] theorem State.raiseMainIrqWith_cfg (r : Byte) : (s.raiseMainIrqWith r).cfg = s.cfg := rfl
@[simp] theorem State.raiseMainIrqWith_portAOut (r : Byte) : (s.raiseMainIrqWith r).portAOut = s.portAOut := rfl
@[simp] theorem State.raiseMainIrqWith_portAIn (r : Byte) : (s.raiseMainIrqWith r).portAIn = s.portAIn := rfl
@[simp] theorem State.raiseMainIrqWith_ddrA (r : Byte) : (s.raiseMainIrqWith r).ddrA = s.ddrA := rfl
@[simp] theorem State.raiseMainIrqWith_portBOut (r : Byte) : (s.raiseMainIrqWith r).portBOut = s.portBOut := rfl
@[simp] theorem State.raiseMainIrqWith_ddrB (r : Byte) : (s.raiseMainIrqWith r).ddrB = s.ddrB := rfl
@[simp] theorem State.raiseMainIrqWith_address (r : Byte) : (s.raiseMainIrqWith r).address = s.address := rfl
@[simp] theorem State.raiseMainIrqWith_latch (r : Byte) : (s.raiseMainIrqWith r).latch = s.latch := rfl
@[simp] theorem State.raiseMainIrqWith_sndCmd (r : Byte) : (s.raiseMainIrqWith r).sndCmd = s.sndCmd := rfl
@[simp] theorem State.raiseMainIrqWith_nmiEnabled (r : Byte) : (s.raiseMainIrqWith r).nmiEnabled = s.nmiEnabled := rfl
@[simp] theorem State.raiseMainIrqWith_nmiPending (r : Byte) : (s.raiseMainIrqWith r).nmiPending = s.nmiPending := rfl
@[simp] theorem State.raiseMainIrqWith_bankIndex (r : Byte) : (s.raiseMainIrqWith r).bankIndex = s.bankIndex := rfl
@[simp] theorem State.raiseMainIrqWith_videoEnable (r : Byte) : (s.raiseMainIrqWith r).videoEnable = s.videoEnable := rfl
@[simp] theorem State.raiseMainIrqWith_flipScreen (r : Byte) : (s.raiseMainIrqWith r).flipScreen = s.flipScreen := rfl
@[simp] theorem State.raiseMainIrqWith_backScrollX (r : Byte) : (s.raiseMainIrqWith r).backScrollX = s.backScrollX := rfl
@[simp] theorem State.raiseMainIrqWith_backScrollYLo (r : Byte) : (s.raiseMainIrqWith r).backScrollYLo = s.backScrollYLo := rfl
@[simp] theorem State.raiseMainIrqWith_backScrollYHi (r : Byte) : (s.raiseMainIrqWith r).backScrollYHi = s.backScrollYHi := rfl
@[simp] theorem State.raiseMainIrqWith_paletteBank (r : Byte) : (s.raiseMainIrqWith r).paletteBank = s.paletteBank := rfl
@[simp] theorem State.raiseMainIrqWith_frontColor (r : Byte) : (s.raiseMainIrqWith r).frontColor = s.frontColor := rfl
@[simp] theorem State.raiseMainIrqWith_repaint (r : Byte) : (s.raiseMainIrqWith r).repaint = s.repaint := rfl
@[simp] theorem State.raiseMainIrqWith_dirty (r : Byte) : (s.raiseMainIrqWith r).dirty = s.dirty := rfl
@[simp] theorem State.raiseMainIrqWith_palette (r : Byte) : (s.raiseMainIrqWith r).palette = s.palette := rfl
@[simp] theorem State.raiseMainIrqWith_mcuIrqLine (r : Byte) : (s.raiseMainIrqWith r).mcuIrqLine = s.mcuIrqLine := rfl
@[simp] theorem State.raiseMainIrqWith_mainIrqPending (r : Byte) : (s.raiseMainIrqWith r).mainIrqPending = true := rfl
@[simp] theorem State.raiseMainIrqWith_mainIrqVector (r : Byte) : (s.raiseMainIrqWith r).mainIrqVector = (s.sharedram2.write 0x7C r).read 0 := rfl
@[simp] theorem State.raiseMainIrqWith_events (r : Byte) : (s.raiseMainIrqWith r).events = s.events ++ [.irqMain ((s.sharedram2.write 0x7C r).read 0)] := rfl
@[simp] theorem State.raiseMainIrqWith_sharedram1 (r : Byte) : (s.raiseMainIrqWith r).sharedram1 = s.sharedram1 := rfl
@[simp] theorem State.raiseMainIrqWith_sharedram2 (r : Byte) : (s.raiseMainIrqWith r).sharedram2 = s.sharedram2.write 0x7C r := rfl
@[simp] theorem State.raiseMainIrqWith_sharedRam (r : Byte) : (s.raiseMainIrqWith r).sharedRam = s.sharedRam := rfl
@[simp] theorem State.raiseMainIrqWith_vram (r : Byte) : (s.raiseMainIrqWith r).vram = s.vram := rfl
@[simp] theorem State.raiseMainIrqWith_cram (r : Byte) : (s.raiseMainIrqWith r).cram = s.cram := rfl
@[simp] theorem State.raiseMainIrqWith_objram (r : Byte) : (s.raiseMainIrqWith r).objram = s.objram := rfl
@[simp] theorem State.raiseMainIrqWith_objxram (r : Byte) : (s.raiseMainIrqWith r).objxram = s.objxram := rfl
@[simp] theorem State.raiseMainIrqWith_fgram (r : Byte) : (s.raiseMainIrqWith r).fgram = s.fgram := rfl
@[simp] theorem State.raiseMainIrqWith_tmp (r : Byte) : (s.raiseMainIrqWith r).tmp = s.tmp := rfl
@[simp] theorem State.raiseMainIrqWith_fb (r : Byte) : (s.raiseMainIrqWith r).fb = s.fb := rfl
@[simp] theorem State.raiseMainIrqWith_inp (r : Byte) : (s.raiseMainIrqWith r).inp = s.inp := rfl
@[simp] theorem State.raiseMainIrqWith_script (r : Byte) : (s.raiseMainIrqWith r).script = s.script := rfl
@[simp] theorem State.raiseMainIrqWith_agent (r : Byte) : (s.raiseMainIrqWith r).agent = s.agent := rfl
@[simp] theorem State.raiseMainIrqWith_ret (r : Byte) : (s.raiseMainIrqWith r).ret = s.ret := rfl
@[simp] theorem State.raiseMainIrqWith_draws (r : Byte) : (s.raiseMainIrqWith r).draws = s.draws := rfl

/-! ## `State.ackMainIrq` -/

@[simp] theorem State.ackMainIrq_cfg : (s.ackMainIrq).cfg = s.cfg := rfl
@[simp] theorem State.ackMainIrq_portAOut : (s.ackMainIrq).portAOut = s.portAOut := rfl
@[simp] theorem State.ackMainIrq_portAIn : (s.ackMainIrq).portAIn = s.portAIn := rfl
@[simp] theorem State.ackMainIrq_ddrA : (s.ackMainIrq).ddrA = s.ddrA := rfl
@[simp] theorem State.ackMainIrq_portBOut : (s.ackMainIrq).portBOut = s.portBOut := rfl
@[simp] theorem State.ackMainIrq_ddrB : (s.ackMainIrq).ddrB = s.ddrB := rfl
@[simp] theorem State.ackMainIrq_address : (s.ackMainIrq).address = s.address := rfl
@[simp] theorem State.ackMainIrq_latch : (s.ackMainIrq).latch = s.latch := rfl
@[simp] theorem State.ackMainIrq_sndCmd : (s.ackMainIrq).sndCmd = s.sndCmd := rfl
@[simp] theorem State.ackMainIrq_nmiEnabled : (s.ackMainIrq).nmiEnabled = s.nmiEnabled := rfl
@[simp] theorem State.ackMainIrq_nmiPending : (s.ackMainIrq).nmiPending = s.nmiPending := rfl
@[simp] theorem State.ackMainIrq_bankIndex : (s.ackMainIrq).bankIndex = s.bankIndex := rfl
@[simp] theorem State.ackMainIrq_videoEnable : (s.ackMainIrq).videoEnable = s.videoEnable := rfl
@[simp] theorem State.ackMainIrq_flipScreen : (s.ackMainIrq).flipScreen = s.flipScreen := rfl
@[simp] theorem State.ackMainIrq_backScrollX : (s.ackMainIrq).backScrollX = s.backScrollX := rfl
@[simp] theorem State.ackMainIrq_backScrollYLo : (s.ackMainIrq).backScrollYLo = s.backScrollYLo := rfl
@[simp] theorem State.ackMainIrq_backScrollYHi : (s.ackMainIrq).backScrollYHi = s.backScrollYHi := rfl
@[simp] theorem State.ackMainIrq_paletteBank : (s.ackMainIrq).paletteBank = s.paletteBank := rfl
@[simp] theorem State.ackMainIrq_frontColor : (s.ackMainIrq).frontColor = s.frontColor := rfl
@[simp] theorem State.ackMainIrq_repaint : (s.ackMainIrq).repaint = s.repaint := rfl
@[simp] theorem State.ackMainIrq_dirty : (s.ackMainIrq).dirty = s.dirty := rfl
@[simp] theorem State.ackMainIrq_palette : (s.ackMainIrq).palette = s.palette := rfl
@[simp] theorem State.ackMainIrq_mcuIrqLine : (s.ackMainIrq).mcuIrqLine = s.mcuIrqLine := rfl
@[simp] theorem State.ackMainIrq_mainIrqPending : (s.ackMainIrq).mainIrqPending = false := rfl
@[simp] theorem State.ackMainIrq_mainIrqVector : (s.ackMainIrq).mainIrqVector = s.mainIrqVector := rfl
@[simp] theorem State.ackMainIrq_events : (s.ackMainIrq).events = s.events := rfl
@[simp] theorem State.ackMainIrq_sharedram1 : (s.ackMainIrq).sharedram1 = s.sharedram1 := rfl
@[simp] theorem State.ackMainIrq_sharedram2 : (s.ackMainIrq).sharedram2 = s.sharedram2 := rfl
@[simp] theorem State.ackMainIrq_sharedRam : (s.ackMainIrq).sharedRam = s.sharedRam := rfl
@[simp] theorem State.ackMainIrq_vram : (s.ackMainIrq).vram = s.vram := rfl
@[simp] theorem State.ackMainIrq_cram : (s.ackMainIrq).cram = s.cram := rfl
@[simp] theorem State.ackMainIrq_objram : (s.ackMainIrq).objram = s.objram := rfl
@[simp] theorem State.ackMainIrq_objxram : (s.ackMainIrq).objxram = s.objxram := rfl
@[simp] theorem State.ackMainIrq_fgram : (s.ackMainIrq).fgram = s.fgram := rfl
@[simp] theorem State.ackMainIrq_tmp : (s.ackMainIrq).tmp = s.tmp := rfl
@[simp] theorem State.ackMainIrq_fb : (s.ackMainIrq).fb = s.fb := rfl
@[simp] theorem State.ackMainIrq_inp : (s.ackMainIrq).inp = s.inp := rfl
@[simp] theorem State.ackMainIrq_script : (s.ackMainIrq).script = s.script := rfl
@[simp] theorem State.ackMainIrq_agent : (s.ackMainIrq).agent = s.agent := rfl
@[simp] theorem State.ackMainIrq_ret : (s.ackMainIrq).ret = some s.mainIrqVector := rfl
@[simp] theorem State.ackMainIrq_draws : (s.ackMainIrq).draws = s.draws := rfl

/-! ## `State.accept` -/

@[simp] theorem State.accept_cfg (t : Transaction) (rest : List Transaction) : (s.accept t rest).cfg = s.cfg := rfl
@[simp] theorem State.accept_portAOut (t : Transaction) (rest : List Transaction) : (s.accept t rest).portAOut = s.portAOut := rfl
@[simp] theorem State.accept_portAIn (t : Transaction) (rest : List Transaction) : (s.accept t rest).portAIn = s.portAIn := rfl
@[simp] theorem State.accept_ddrA (t : Transaction) (rest : List Transaction) : (s.accept t rest).ddrA = s.ddrA := rfl
@[simp] theorem State.accept_portBOut (t : Transaction) (rest : List Transaction) : (s.accept t rest).portBOut = s.portBOut := rfl
@[simp] theorem State.accept_ddrB (t : Transaction) (rest : List Transaction) : (s.accept t rest).ddrB = s.ddrB := rfl
@[simp] theorem State.accept_address (t : Transaction) (rest : List Transaction) : (s.accept t rest).address = s.address := rfl
@[simp] theorem State.accept_latch (t : Transaction) (rest : List Transaction) : (s.accept t rest).latch = s.latch := rfl
@[simp] theorem State.accept_sndCmd (t : Transaction) (rest : List Transaction) : (s.accept t rest).sndCmd = s.sndCmd := rfl
@[simp] theorem State.accept_nmiEnabled (t : Transaction) (rest : List Transaction) : (s.accept t rest).nmiEnabled = s.nmiEnabled := rfl
@[simp] theorem State.accept_nmiPending (t : Transaction) (rest : List Transaction) : (s.accept t rest).nmiPending = s.nmiPending := rfl
@[simp] theorem State.accept_bankIndex (t : Transaction) (rest : List Transaction) : (s.accept t rest).bankIndex = s.bankIndex := rfl
@[simp] theorem State.accept_videoEnable (t : Transaction) (rest : List Transaction) : (s.accept t rest).videoEnable = s.videoEnable := rfl
@[simp] theorem State.accept_flipScreen (t : Transaction) (rest : List Transaction) : (s.accept t rest).flipScreen = s.flipScreen := rfl
@[simp] theorem State.accept_backScrollX (t : Transaction) (rest : List Transaction) : (s.accept t rest).backScrollX = s.backScrollX := rfl
@[simp] theorem State.accept_backScrollYLo (t : Transaction) (rest : List Transaction) : (s.accept t rest).backScrollYLo = s.backScrollYLo := rfl
@[simp] theorem State.accept_backScrollYHi (t : Transaction) (rest : List Transaction) : (s.accept t rest).backScrollYHi = s.backScrollYHi := rfl
@[simp] theorem State.accept_paletteBank (t : Transaction) (rest : List Transaction) : (s.accept t rest).paletteBank = s.paletteBank := rfl
@[simp] theorem State.accept_frontColor (t : Transaction) (rest : List Transaction) : (s.accept t rest).frontColor = s.frontColor := rfl
@[simp] theorem State.accept_repaint (t : Transaction) (rest : List Transaction) : (s.accept t rest).repaint = s.repaint := rfl
@[simp] theorem State.accept_dirty (t : Transaction) (rest : List Transaction) : (s.accept t rest).dirty = s.dirty := rfl
@[simp] theorem State.accept_palette (t : Transaction) (rest : List Transaction) : (s.accept t rest).palette = s.palette := rfl
@[simp] theorem State.accept_mcuIrqLine (t : Transaction) (rest : List Transaction) : (s.accept t rest).mcuIrqLine = s.mcuIrqLine := rfl
@[simp] theorem State.accept_mainIrqPending (t : Transaction) (rest : List Transaction) : (s.accept t rest).mainIrqPending = s.mainIrqPending := rfl
@[simp] theorem State.accept_mainIrqVector (t : Transaction) (rest : List Transaction) : (s.accept t rest).mainIrqVector = s.mainIrqVector := rfl
@[simp] theorem State.accept_events (t : Transaction) (rest : List Transaction) : (s.accept t rest).events = s.events := rfl
@[simp] theorem State.accept_sharedram1 (t : Transaction) (rest : List Transaction) : (s.accept t rest).sharedram1 = s.sharedram1 := rfl
@[simp] theorem State.accept_sharedram2 (t : Transaction) (rest : List Transaction) : (s.accept t rest).sharedram2 = s.sharedram2 := rfl
@[simp] theorem State.accept_sharedRam (t : Transaction) (rest : List Transaction) : (s.accept t rest).sharedRam = s.sharedRam := rfl
@[simp] theorem State.accept_vram (t : Transaction) (rest : List Transaction) : (s.accept t rest).vram = s.vram := rfl
@[simp] theorem State.accept_cram (t : Transaction) (rest : List Transaction) : (s.accept t rest).cram = s.cram := rfl
@[simp] theorem State.accept_objram (t : Transaction) (rest : List Transaction) : (s.accept t rest).objram = s.objram := rfl
@[simp] theorem State.accept_objxram (t : Transaction) (rest : List Transaction) : (s.accept t rest).objxram = s.objxram := rfl
@[simp] theorem State.accept_fgram (t : Transaction) (rest : List Transaction) : (s.accept t rest).fgram = s.fgram := rfl
@[simp] theorem State.accept_tmp (t : Transaction) (rest : List Transaction) : (s.accept t rest).tmp = s.tmp := rfl
@[simp] theorem State.accept_fb (t : Transaction) (rest : List Transaction) : (s.accept t rest).fb = s.fb := rfl
@[simp] theorem State.accept_inp (t : Transaction) (rest : List Transaction) : (s.accept t rest).inp = s.inp := rfl
@[simp] theorem State.accept_script (t : Transaction) (rest : List Transaction) : (s.accept t rest).script = rest := rfl
@[simp] theorem State.accept_agent (t : Transaction) (rest : List Transaction) : (s.accept t rest).agent = t.agent := rfl
@[simp] theorem State.accept_ret (t : Transaction) (rest : List Transaction) : (s.accept t rest).ret = none := rfl
@[simp] theorem State.accept_draws (t : Transaction) (rest : List Transaction) : (s.accept t rest).draws = s.draws := rfl

/-! ## `State.blankFrame` -/

@[simp] theorem State.blankFrame_cfg : (s.blankFrame).cfg = s.cfg := rfl
@[simp] theorem State.blankFrame_portAOut : (s.blankFrame).portAOut = s.portAOut := rfl
@[simp] theorem State.blankFrame_portAIn : (s.blankFrame).portAIn = s.portAIn := rfl
@[simp] theorem State.blankFrame_ddrA : (s.blankFrame).ddrA = s.ddrA := rfl
@[simp] theorem State.blankFrame_portBOut : (s.blankFrame).portBOut = s.portBOut := rfl
@[simp] theorem State.blankFrame_ddrB : (s.blankFrame).ddrB = s.ddrB := rfl
@[simp] theorem State.blankFrame_address : (s.blankFrame).address = s.address := rfl
@[simp] theorem State.blankFrame_latch : (s.blankFrame).latch = s.latch := rfl
@[simp] theorem State.blankFrame_sndCmd : (s.blankFrame).sndCmd = s.sndCmd := rfl
@[simp] theorem State.blankFrame_nmiEnabled : (s.blankFrame).nmiEnabled = s.nmiEnabled := rfl
@[simp] theorem State.blankFrame_nmiPending : (s.blankFrame).nmiPending = s.nmiPending := rfl
@[simp] theorem State.blankFrame_bankIndex : (s.blankFrame).bankIndex = s.bankIndex := rfl
@[simp] theorem State.blankFrame_videoEnable : (s.blankFrame).videoEnable = s.videoEnable := rfl
@[simp] theorem State.blankFrame_flipScreen : (s.blankFrame).flipScreen = s.flipScreen := rfl
@[simp] theorem State.blankFrame_backScrollX : (s.blankFrame).backScrollX = s.backScrollX := rfl
@[simp] theorem State.blankFrame_backScrollYLo : (s.blankFrame).backScrollYLo = s.backScrollYLo := rfl
@[simp] theorem State.blankFrame_backScrollYHi : (s.blankFrame).backScrollYHi = s.backScrollYHi := rfl
@[simp] theorem State.blankFrame_paletteBank : (s.blankFrame).paletteBank = s.paletteBank := rfl
@[simp] theorem State.blankFrame_frontColor : (s.blankFrame).frontColor = s.frontColor := rfl
@[simp] theorem State.blankFrame_repaint : (s.blankFrame).repaint = s.repaint := rfl
@[simp] theorem State.blankFrame_dirty : (s.blankFrame).dirty = s.dirty := rfl
@[simp] theorem State.blankFrame_palette : (s.blankFrame).palette = s.palette := rfl
@[simp] theorem State.blankFrame_mcuIrqLine : (s.blankFrame).mcuIrqLine = s.mcuIrqLine := rfl
@[simp] theorem State.blankFrame_mainIrqPending : (s.blankFrame).mainIrqPending = s.mainIrqPending := rfl
@[simp] theorem State.blankFrame_mainIrqVector : (s.blankFrame).mainIrqVector = s.mainIrqVector := rfl
@[simp] theorem State.blankFrame_events : (s.blankFrame).events = s.events := rfl
@[simp] theorem State.blankFrame_sharedram1 : (s.blankFrame).sharedram1 = s.sharedram1 := rfl
@[simp] theorem State.blankFrame_sharedram2 : (s.blankFrame).sharedram2 = s.sharedram2 := rfl
@[simp] theorem State.blankFrame_sharedRam : (s.blankFrame).sharedRam = s.sharedRam := rfl
@[simp] theorem State.blankFrame_vram : (s.blankFrame).vram = s.vram := rfl
@[simp] theorem State.blankFrame_cram : (s.blankFrame).cram = s.cram := rfl
@[simp] theorem State.blankFrame_objram : (s.blankFrame).objram = s.objram := rfl
@[simp] theorem State.blankFrame_objxram : (s.blankFrame).objxram = s.objxram := rfl
@[simp] theorem State.blankFrame_fgram : (s.blankFrame).fgram = s.fgram := rfl
@[simp] theorem State.blankFrame_tmp : (s.blankFrame).tmp = s.tmp := rfl
@[simp] theorem State.blankFrame_fb : (s.blankFrame).fb = s.fb.paint s.cfg.geometry.clip fun _ _ => s.cfg.geometry.fillIndex := rfl
@[simp] theorem State.blankFrame_inp : (s.blankFrame).inp = s.inp := rfl
@[simp] theorem State.blankFrame_script : (s.blankFrame).script = s.script := rfl
@[simp] theorem State.blankFrame_agent : (s.blankFrame).agent = s.agent := rfl
@[simp] theorem State.blankFrame_ret : (s.blankFrame).ret = s.ret := rfl
@[simp] theorem State.blankFrame_draws : (s.blankFrame).draws = s.draws := rfl

end Sys2Proof.Machine
end

