-- ==== Sys2Proof/Laws/Ops.lean ====
section
/-! SUPPORT. One lemma per shared operation that says all it can do: the conditional operations as one record update
each, the check of a transaction, and the marked set. -/
namespace Sys2Proof.Machine

open Sys2Proof

/-! ## Configurations -/

/-- The values of R9 with the default geometry meet what a configuration must meet (45_video_compositor R211,
60_exceptions R268). -/
theorem standard_sound (b : Board) (mcuFitted : Bool) (portBIn : Byte) :
    (Cfg.standard b mcuFitted portBIn).Sound := by
  cases b <;> constructor <;>
    simp [Cfg.standard, BoardParams.standard, Board.variant, Geometry.standard, Geometry.tmpW, Geometry.tmpH]

/-! ## The check of a transaction -/

/-- A transaction passes the check exactly when it is well-formed for its board and its agent. -/
theorem State.refusal_none_iff (s : State) (i : Instr) : s.refusal i = none ↔ i.WellFormed s.cfg s.agent = true := by
  simp only [State.refusal, Instr.WellFormed, Bool.and_eq_true]
  cases i.existsOn s.cfg <;> cases i.issuers.contains s.agent <;> cases i.inRange s.cfg <;> simp

/-- A performed operation answers its next state exactly when the transaction is well-formed. -/
theorem State.perform_next_iff (s : State) (i : Instr) (t u : State) :
    s.perform i t = .next u ↔ i.WellFormed s.cfg s.agent = true ∧ u = t := by
  rw [← State.refusal_none_iff, State.perform]
  cases s.refusal i <;> simp [eq_comm]

/-- An admitted operation answers its next state. -/
theorem State.perform_of_wellFormed {s : State} {i : Instr} (h : i.WellFormed s.cfg s.agent = true) (t : State) :
    s.perform i t = .next t :=
  (State.perform_next_iff s i t t).2 ⟨h, rfl⟩

/-! ## The marked set -/

theorem mem_markIn {n m : Nat} {l : List Nat} : m ∈ markIn n l ↔ m = n ∨ m ∈ l := by
  induction l with
  | nil => simp [markIn]
  | cons k t ih =>
    simp only [markIn]
    split
    · simp
    · split
      · next h => simp [h]
      · simp only [List.mem_cons, ih]; tauto

theorem markIn_ascending {n : Nat} {l : List Nat} (h : l.Pairwise (· < ·)) : (markIn n l).Pairwise (· < ·) := by
  induction l with
  | nil => simp [markIn]
  | cons k t ih =>
    obtain ⟨hk, ht⟩ := List.pairwise_cons.1 h
    simp only [markIn]
    split
    · next hl =>
      exact List.pairwise_cons.2 ⟨fun m hm => by
        rcases List.mem_cons.1 hm with rfl | hm
        · exact hl
        · exact hl.trans (hk m hm), h⟩
    · split
      · exact h
      · refine List.pairwise_cons.2 ⟨fun m hm => ?_, ih ht⟩
        rcases mem_markIn.1 hm with rfl | hm
        · omega
        · exact hk m hm

/-- Marking is idempotent. -/
theorem markIn_of_mem {n : Nat} {l : List Nat} (h : l.Pairwise (· < ·)) (hn : n ∈ l) : markIn n l = l := by
  induction l with
  | nil => simp at hn
  | cons k t ih =>
    obtain ⟨hk, ht⟩ := List.pairwise_cons.1 h
    rcases List.mem_cons.1 hn with rfl | hn
    · simp [markIn]
    · have := hk n hn
      simp [markIn, show ¬ n < k by omega, show n ≠ k by omega, ih ht hn]

/-! ## The conditional operations, each as one record update -/

theorem State.setFlip_eq (s : State) (b : Bool) :
    s.setFlip b =
      { s with
        flipScreen := b
        dirty := if b ≠ s.flipScreen then List.range s.cfg.geometry.vramSize else s.dirty
        repaint := if b ≠ s.flipScreen then s.repaintOnMark else s.repaint } := by
  unfold State.setFlip
  split <;> rfl

theorem State.nmiAssert_eq (s : State) :
    s.nmiAssert =
      { s with
        nmiPending := !s.nmiEnabled || s.nmiPending
        events := if s.nmiEnabled then s.events ++ [.nmiSound] else s.events } := by
  unfold State.nmiAssert
  cases h : s.nmiEnabled <;> simp [State.emit, h]

theorem State.bankVideo_eq (s : State) (v : Byte) :
    s.bankVideo v =
      { s with videoEnable := if s.cfg.veMask ≠ 0 then decide (v &&& s.cfg.veMask ≠ 0) else s.videoEnable } := by
  unfold State.bankVideo
  split <;> rfl

theorem State.bankFlip_eq (s : State) (v : Byte) :
    s.bankFlip v = if s.cfg.bankFlipMask = 0 then s else s.setFlip (v &&& s.cfg.bankFlipMask ≠ 0) := by
  unfold State.bankFlip
  split <;> simp_all

@[simp] theorem State.onEdge_true (s : State) (f : State → State) : s.onEdge true f = f s := rfl

@[simp] theorem State.onEdge_false (s : State) (f : State → State) : s.onEdge false f = s := rfl

/-- The delivery and the two address loads, as one record update. -/
theorem State.onEdge_loads_eq (s : State) (deliver low high : Bool) :
    ((s.onEdge deliver State.deliver).onEdge low State.loadAddrLow).onEdge high State.loadAddrHigh =
      { s with
        portAIn := if deliver then s.latch else s.portAIn
        address :=
          let a := if low then (s.address &&& 0xFF00) ||| s.portAOut.setWidth 16 else s.address
          if high then (a &&& 0x00FF) ||| ((s.portAOut &&& 0x0F).setWidth 16 <<< 8) else a } := by
  cases deliver <;> cases low <;> cases high <;> rfl

/-- The input port a proxied read samples, by its place in the list of the five. -/
theorem State.inputPort_portIndex (s : State) (a : BitVec 16) :
    s.inputPort (portIndex a) = s.inp.toList.getD ((a &&& 3).toNat + 1) 0 := by
  have h4 : (a &&& 3).toNat < 4 := by
    have : (a &&& 3).toNat = a.toNat &&& 3 := by simp
    rw [this, show (3 : Nat) = 2 ^ 2 - 1 by rfl, Nat.and_two_pow_sub_one_eq_mod]
    omega
  have h : ((portIndex a : Fin 5) : Nat) = (a &&& 3).toNat + 1 := by
    show (a &&& 3).toNat % 4 + 1 = _
    omega
  rw [List.getD_eq_getElem?_getD, ← h, Vector.getElem?_toList, Vector.getElem?_eq_getElem (portIndex a).isLt]
  rfl

theorem State.proxyRead_eq (s : State) :
    s.proxyRead =
      { s with
        latch :=
          if inInputWindow s.address then s.inputPort (portIndex s.address)
          else if inSharedWindow s.address then s.sharedram2.read (proxyOffset s.address) else s.latch
        events :=
          if inInputWindow s.address || inSharedWindow s.address then s.events
          else s.events ++ [.diag diagUnmappedRead s.address] } := by
  unfold State.proxyRead
  cases inInputWindow s.address <;> cases inSharedWindow s.address <;> rfl

theorem State.proxyWrite_eq (s : State) :
    s.proxyWrite =
      { s with
        sharedram2 :=
          if inSharedWindow s.address then s.sharedram2.write (proxyOffset s.address) s.portAOut else s.sharedram2
        events :=
          if inSharedWindow s.address then s.events
          else s.events ++ [.diag diagUnmappedWrite s.address] } := by
  unfold State.proxyWrite
  cases inSharedWindow s.address <;> rfl

theorem State.raiseMainIrq_eq (s : State) :
    s.raiseMainIrq =
      { s with
        sharedram2 := s.sharedram2.write 0x7C s.nextDraw
        mainIrqVector := s.sharedram2.read 0
        mainIrqPending := true
        events := s.events ++ [.irqMain (s.sharedram2.read 0)]
        draws := s.draws + 1 } := by
  have h : (s.sharedram2.write 0x7C s.nextDraw).read 0 = s.sharedram2.read 0 := by
    rw [Memory.read_write]
    simp
  simp only [State.raiseMainIrq, State.raiseMainIrqWith, h]

theorem proxyOffset_lt (a : BitVec 16) : proxyOffset a < 0x400 := by
  have h : (a &&& 0x03FF).toNat = a.toNat &&& 0x3FF := by simp
  rw [proxyOffset, h, show (0x3FF : Nat) = 2 ^ 10 - 1 by rfl, Nat.and_two_pow_sub_one_eq_mod]
  omega

/-- The draw is one of the six values. -/
theorem State.nextDraw_lt (s : State) : s.nextDraw.toNat < 6 := by
  have h := (Config.draw s.draws).isLt
  simp only [State.nextDraw, BitVec.toNat_ofNat]
  omega

/-- The ROM byte the window shows lies inside `rom` (41_bank_switch R133). -/
theorem State.romIndex_lt (s : State) {off : Nat} (h : off < s.cfg.bankSize) :
    s.romIndex off < Config.romSize s.cfg := by
  have hb := Nat.mul_le_mul_left s.cfg.bankSize (Nat.le_of_lt_succ s.bankIndex.isLt)
  simp only [State.romIndex, Config.romSize]
  omega

end Sys2Proof.Machine
end

