-- ==== Sys2Proof/Laws/Exec.lean ====
section
/-! SUPPORT. What `exec` and `step` can do, said once: the effect of each operation on an admitted transaction. -/
namespace Sys2Proof.Machine

open Sys2Proof

/-! ## The two operations that touch several fields -/

/-- The frame operation touches the picture, the marks and the repaint flag alone. -/
theorem State.screenRefresh_frame (s : State) (g : Gfx) (full : Bool) :
    s.screenRefresh g full =
      { s with
        tmp := (s.screenRefresh g full).tmp
        fb := (s.screenRefresh g full).fb
        dirty := (s.screenRefresh g full).dirty
        repaint := (s.screenRefresh g full).repaint } := by
  unfold State.screenRefresh
  split
  · cases full <;> rfl
  · rfl

/-- A proxied access touches `latch`, `sharedram2` and the trace alone. -/
theorem State.proxyAccess_frame (s : State) (dir : Bool) :
    s.proxyAccess dir =
      { s with
        latch := (s.proxyAccess dir).latch
        sharedram2 := (s.proxyAccess dir).sharedram2
        events := (s.proxyAccess dir).events } := by
  cases dir
  · show s.proxyWrite = _
    simp only [State.proxyAccess, Bool.false_eq_true, if_false, State.proxyWrite_eq]
  · show s.proxyRead = _
    simp only [State.proxyAccess, if_true, State.proxyRead_eq]

/-- The edge actions touch the MCU's delivery, address and latch, `sharedram2`, the held interrupt, the trace and the
count of draws alone. -/
theorem State.edgeActions_frame (s : State) (e : EdgeSet) (dir : Bool) :
    s.edgeActions e dir =
      { s with
        portAIn := (s.edgeActions e dir).portAIn
        address := (s.edgeActions e dir).address
        latch := (s.edgeActions e dir).latch
        sharedram2 := (s.edgeActions e dir).sharedram2
        mainIrqVector := (s.edgeActions e dir).mainIrqVector
        mainIrqPending := (s.edgeActions e dir).mainIrqPending
        events := (s.edgeActions e dir).events
        draws := (s.edgeActions e dir).draws } := by
  rcases e with ⟨deliver, low, high, access, irq⟩
  simp only [State.edgeActions, State.onEdge_loads_eq]
  cases access <;> cases irq <;>
    simp only [State.onEdge_true, State.onEdge_false, State.raiseMainIrq_eq] <;>
    rw [State.proxyAccess_frame]

/-! ## Every operation -/

/-- The next state of an admitted operation. -/
def effect : Instr → State → State
  | .sr1Rd off, s => s.reply (s.sharedram1.read off.toNat)
  | .sr1Wr off v, s => { s with sharedram1 := s.sharedram1.write off.toNat v }
  | .sr2Rd off, s => s.reply (s.sharedram2.read off.toNat)
  | .sr2Wr off v, s => { s with sharedram2 := s.sharedram2.write off.toNat v }
  | .shrRd off, s => s.reply (s.sharedRam.read off.toNat)
  | .shrWr off v, s => { s with sharedRam := s.sharedRam.write off.toNat v }
  | .bankWr v, s => ({ s with bankIndex := decodedBank s.cfg v }.bankVideo v).bankFlip v
  | .vidctrlWr v, s => s.setFlip (v &&& s.cfg.vidctrlFlipMask ≠ 0)
  | .romwinRd off, s => s.reply (Config.rom (s.romIndex off.toNat))
  | .sndcmdWr v, s => { s with sndCmd := v }.nmiAssert
  | .sndlatchRd, s => s.reply s.sndCmd
  | .nmiDis _, s => { s with nmiEnabled := false }
  | .nmiEn _, s =>
    if s.nmiPending then { s.emit .nmiSound with nmiEnabled := true, nmiPending := false }
    else { s with nmiEnabled := true }
  | .nmitrigWr _, s => s.emit .nmiSub
  | .mcuPaRd, s => s.reply (portRead s.portAOut s.portAIn s.ddrA)
  | .mcuPaWr v, s => { s with portAOut := v }
  | .mcuDdraWr v, s => { s with ddrA := v }
  | .mcuPbRd, s => s.reply (portRead s.portBOut s.cfg.portBIn s.ddrB)
  | .mcuPbWr v, s => { s.edgeActions (detectEdges s.portBOut v s.ddrB) (v.getLsbD 3) with portBOut := v }
  | .mcuDdrbWr v, s => { s with ddrB := v }
  | .mcuIrqTick, s => { s with mcuIrqLine := !s.mcuIrqLine }.emit (.irqMcu !s.mcuIrqLine)
  | .vramRd off, s => s.reply (s.vram.read off.toNat)
  | .vramWr off v, s => { s with vram := s.vram.write off.toNat v }.markCell off.toNat
  | .cramRd off, s => s.reply (s.cram.read off.toNat)
  | .cramWr off v, s => { s with cram := s.cram.write off.toNat v }.markCell off.toNat
  | .objRd off, s => s.reply (s.objram.read off.toNat)
  | .objWr off v, s => { s with objram := s.objram.write off.toNat v }
  | .objxRd off, s => s.reply ((s.objxram.read off.toNat).setWidth 8)
  | .objxWr off v, s => { s with objxram := s.objxram.write off.toNat (v.setWidth 4) }
  | .fgRd off, s => s.reply (s.fgram.read off.toNat)
  | .fgWr off v, s => { s with fgram := s.fgram.write off.toNat v }
  | .scrxWr v, s => { s with backScrollX := v }
  | .scryloWr v, s => { s with backScrollYLo := v }
  | .scryhiWr v, s => { s with backScrollYHi := v.setWidth 1 }
  | .palbankWr v, s =>
    { (if v.setWidth 1 ≠ s.paletteBank then s.markAllDirty else s) with paletteBank := v.setWidth 1 }
  | .frontcolWr v, s => { s with frontColor := v.setWidth 1 }
  | .flipWr v, s => s.setFlip (v.getLsbD 0)
  | .screenRefresh full, s => s.screenRefresh Config.gfx full
  | .fakeRd, s => s.reply 0xBF
  | .nopWr _ _, s => s
  | .mainIrqAck, s => s.ackMainIrq
  | .envInport idx v, s => { s with inp := s.inp.setIfInBounds idx.toNat v }

/-- Every operation is its check and its effect. -/
theorem exec_perform (i : Instr) (s : State) : exec i s = s.perform i (effect i s) := by cases i <;> rfl

/-- What `exec` can do: it answers the effect of a well-formed request and refuses every other. -/
theorem exec_next_iff (i : Instr) (s t : State) :
    exec i s = .next t ↔ i.WellFormed s.cfg s.agent = true ∧ t = effect i s := by
  rw [exec_perform, State.perform_next_iff]

/-- What one step can do: stand still with no transaction pending, or perform the next one. -/
theorem step_next_cases {s t : State} (h : step s = .next t) :
    (s.script = [] ∧ t = s) ∨
      ∃ tr rest i, s.script = tr :: rest ∧ decode tr.word = .ok i ∧
        i.WellFormed s.cfg tr.agent = true ∧ t = effect i (s.accept tr rest) := by
  unfold step at h
  split at h
  · next hs => exact .inl ⟨hs, by simpa using h.symm⟩
  · next tr rest hs =>
    split at h
    · next i hd =>
      obtain ⟨hw, ht⟩ := (exec_next_iff i _ t).1 h
      exact .inr ⟨tr, rest, i, hs, hd, hw, ht⟩
    · simp at h

end Sys2Proof.Machine
end

