-- ==== Sys2Proof/Laws/PerInstr.lean ====
section
/-! SUPPORT. A statement about every operation as syntax, one lemma per constructor: the word the encoder writes has the
operation's own row of the opcode table, mask and match. -/
namespace Sys2Proof.Laws.EncodesRow

open Sys2Proof

/-- The word of `i` matches a row of the opcode table that has the name of `i` (30_encoding R92, R100). -/
def Statement (i : Instr) : Prop :=
  ∃ row ∈ opcodeTable, row.mnemonic = i.mnemonic ∧ encode i &&& row.mask = row.pattern

/-- How a word of three fields meets a mask of three fields. -/
theorem packWord_and (op : Byte) (a : Offset) (d : Byte) (mo : Byte) (ma : Offset) (md : Byte) :
    packWord op a d &&& packWord mo ma md = packWord (op &&& mo) (a &&& ma) (d &&& md) := by
  apply BitVec.eq_of_getLsbD_eq
  intro i hi
  simp only [packWord, BitVec.getLsbD_and, BitVec.getLsbD_append]
  split
  · rfl
  · split <;> rfl

/-- A row found by its name, mask and match split into fields. -/
theorem of_row {i : Instr} {op : Byte} {a : Offset} {d : Byte} (ma : Offset) (md : Byte) (row : OpcodeRow)
    (he : encode i = packWord op a d) (hr : row ∈ opcodeTable) (hn : row.mnemonic = i.mnemonic)
    (hm : row.mask = packWord 0xFF ma md) (hp : row.pattern = packWord op 0 0) (ha : a &&& ma = 0)
    (hd : d &&& md = 0) : Statement i := by
  refine ⟨row, hr, hn, ?_⟩
  rw [he, hm, packWord_and, ha, hd, hp]
  congr 1
  exact BitVec.and_allOnes

theorem sr1Rd (off : Offset) : Statement (.sr1Rd off) :=
  of_row 0 0xFF ⟨"SR1_RD", 0x00000000, maskA⟩ rfl (by decide) rfl (by decide) (by decide) (by simp) (by simp)

theorem sr1Wr (off : Offset) (v : Byte) : Statement (.sr1Wr off v) :=
  of_row 0 0 ⟨"SR1_WR", 0x01000000, maskAD⟩ rfl (by decide) rfl (by decide) (by decide) (by simp) (by simp)

theorem sr2Rd (off : Offset) : Statement (.sr2Rd off) :=
  of_row 0 0xFF ⟨"SR2_RD", 0x02000000, maskA⟩ rfl (by decide) rfl (by decide) (by decide) (by simp) (by simp)

theorem sr2Wr (off : Offset) (v : Byte) : Statement (.sr2Wr off v) :=
  of_row 0 0 ⟨"SR2_WR", 0x03000000, maskAD⟩ rfl (by decide) rfl (by decide) (by decide) (by simp) (by simp)

theorem shrRd (off : Offset) : Statement (.shrRd off) :=
  of_row 0 0xFF ⟨"SHR_RD", 0x04000000, maskA⟩ rfl (by decide) rfl (by decide) (by decide) (by simp) (by simp)

theorem shrWr (off : Offset) (v : Byte) : Statement (.shrWr off v) :=
  of_row 0 0 ⟨"SHR_WR", 0x05000000, maskAD⟩ rfl (by decide) rfl (by decide) (by decide) (by simp) (by simp)

theorem bankWr (v : Byte) : Statement (.bankWr v) :=
  of_row 0xFFFF 0 ⟨"BANK_WR", 0x10000000, maskD⟩ rfl (by decide) rfl (by decide) (by decide) (by simp) (by simp)

theorem vidctrlWr (v : Byte) : Statement (.vidctrlWr v) :=
  of_row 0xFFFF 0 ⟨"VIDCTRL_WR", 0x11000000, maskD⟩ rfl (by decide) rfl (by decide) (by decide) (by simp) (by simp)

theorem romwinRd (off : Offset) : Statement (.romwinRd off) :=
  of_row 0 0xFF ⟨"ROMWIN_RD", 0x12000000, maskA⟩ rfl (by decide) rfl (by decide) (by decide) (by simp) (by simp)

theorem sndcmdWr (v : Byte) : Statement (.sndcmdWr v) :=
  of_row 0xFFFF 0 ⟨"SNDCMD_WR", 0x20000000, maskD⟩ rfl (by decide) rfl (by decide) (by decide) (by simp) (by simp)

theorem sndlatchRd : Statement (.sndlatchRd) :=
  of_row 0xFFFF 0xFF ⟨"SNDLATCH_RD", 0x21000000, maskZ⟩ rfl (by decide) rfl (by decide) (by decide) (by simp) (by simp)

theorem nmiDis (ignored : Byte) : Statement (.nmiDis ignored) :=
  of_row 0xFFFF 0 ⟨"NMI_DIS", 0x22000000, maskX⟩ rfl (by decide) rfl (by decide) (by decide) (by simp) (by simp)

theorem nmiEn (ignored : Byte) : Statement (.nmiEn ignored) :=
  of_row 0xFFFF 0 ⟨"NMI_EN", 0x23000000, maskX⟩ rfl (by decide) rfl (by decide) (by decide) (by simp) (by simp)

theorem nmitrigWr (ignored : Byte) : Statement (.nmitrigWr ignored) :=
  of_row 0xFFFF 0 ⟨"NMITRIG_WR", 0x24000000, maskX⟩ rfl (by decide) rfl (by decide) (by decide) (by simp) (by simp)

theorem mcuPaRd : Statement (.mcuPaRd) :=
  of_row 0xFFFF 0xFF ⟨"MCU_PA_RD", 0x30000000, maskZ⟩ rfl (by decide) rfl (by decide) (by decide) (by simp) (by simp)

theorem mcuPaWr (v : Byte) : Statement (.mcuPaWr v) :=
  of_row 0xFFFF 0 ⟨"MCU_PA_WR", 0x31000000, maskD⟩ rfl (by decide) rfl (by decide) (by decide) (by simp) (by simp)

theorem mcuDdraWr (v : Byte) : Statement (.mcuDdraWr v) :=
  of_row 0xFFFF 0 ⟨"MCU_DDRA_WR", 0x32000000, maskD⟩ rfl (by decide) rfl (by decide) (by decide) (by simp) (by simp)

theorem mcuPbRd : Statement (.mcuPbRd) :=
  of_row 0xFFFF 0xFF ⟨"MCU_PB_RD", 0x33000000, maskZ⟩ rfl (by decide) rfl (by decide) (by decide) (by simp) (by simp)

theorem mcuPbWr (v : Byte) : Statement (.mcuPbWr v) :=
  of_row 0xFFFF 0 ⟨"MCU_PB_WR", 0x34000000, maskD⟩ rfl (by decide) rfl (by decide) (by decide) (by simp) (by simp)

theorem mcuDdrbWr (v : Byte) : Statement (.mcuDdrbWr v) :=
  of_row 0xFFFF 0 ⟨"MCU_DDRB_WR", 0x35000000, maskD⟩ rfl (by decide) rfl (by decide) (by decide) (by simp) (by simp)

theorem mcuIrqTick : Statement (.mcuIrqTick) :=
  of_row 0xFFFF 0xFF ⟨"MCU_IRQ_TICK", 0x36000000, maskZ⟩ rfl (by decide) rfl (by decide) (by decide) (by simp) (by simp)

theorem vramRd (off : Offset) : Statement (.vramRd off) :=
  of_row 0 0xFF ⟨"VRAM_RD", 0x40000000, maskA⟩ rfl (by decide) rfl (by decide) (by decide) (by simp) (by simp)

theorem vramWr (off : Offset) (v : Byte) : Statement (.vramWr off v) :=
  of_row 0 0 ⟨"VRAM_WR", 0x41000000, maskAD⟩ rfl (by decide) rfl (by decide) (by decide) (by simp) (by simp)

theorem cramRd (off : Offset) : Statement (.cramRd off) :=
  of_row 0 0xFF ⟨"CRAM_RD", 0x42000000, maskA⟩ rfl (by decide) rfl (by decide) (by decide) (by simp) (by simp)

theorem cramWr (off : Offset) (v : Byte) : Statement (.cramWr off v) :=
  of_row 0 0 ⟨"CRAM_WR", 0x43000000, maskAD⟩ rfl (by decide) rfl (by decide) (by decide) (by simp) (by simp)

theorem objRd (off : Offset) : Statement (.objRd off) :=
  of_row 0 0xFF ⟨"OBJ_RD", 0x44000000, maskA⟩ rfl (by decide) rfl (by decide) (by decide) (by simp) (by simp)

theorem objWr (off : Offset) (v : Byte) : Statement (.objWr off v) :=
  of_row 0 0 ⟨"OBJ_WR", 0x45000000, maskAD⟩ rfl (by decide) rfl (by decide) (by decide) (by simp) (by simp)

theorem objxRd (off : Offset) : Statement (.objxRd off) :=
  of_row 0 0xFF ⟨"OBJX_RD", 0x46000000, maskA⟩ rfl (by decide) rfl (by decide) (by decide) (by simp) (by simp)

theorem objxWr (off : Offset) (v : Byte) : Statement (.objxWr off v) :=
  of_row 0 0 ⟨"OBJX_WR", 0x47000000, maskAD⟩ rfl (by decide) rfl (by decide) (by decide) (by simp) (by simp)

theorem fgRd (off : Offset) : Statement (.fgRd off) :=
  of_row 0 0xFF ⟨"FG_RD", 0x48000000, maskA⟩ rfl (by decide) rfl (by decide) (by decide) (by simp) (by simp)

theorem fgWr (off : Offset) (v : Byte) : Statement (.fgWr off v) :=
  of_row 0 0 ⟨"FG_WR", 0x49000000, maskAD⟩ rfl (by decide) rfl (by decide) (by decide) (by simp) (by simp)

theorem scrxWr (v : Byte) : Statement (.scrxWr v) :=
  of_row 0xFFFF 0 ⟨"SCRX_WR", 0x4A000000, maskD⟩ rfl (by decide) rfl (by decide) (by decide) (by simp) (by simp)

theorem scryloWr (v : Byte) : Statement (.scryloWr v) :=
  of_row 0xFFFF 0 ⟨"SCRYLO_WR", 0x4B000000, maskD⟩ rfl (by decide) rfl (by decide) (by decide) (by simp) (by simp)

theorem scryhiWr (v : Byte) : Statement (.scryhiWr v) :=
  of_row 0xFFFF 0 ⟨"SCRYHI_WR", 0x4C000000, maskD⟩ rfl (by decide) rfl (by decide) (by decide) (by simp) (by simp)

theorem palbankWr (v : Byte) : Statement (.palbankWr v) :=
  of_row 0xFFFF 0 ⟨"PALBANK_WR", 0x4D000000, maskD⟩ rfl (by decide) rfl (by decide) (by decide) (by simp) (by simp)

theorem frontcolWr (v : Byte) : Statement (.frontcolWr v) :=
  of_row 0xFFFF 0 ⟨"FRONTCOL_WR", 0x4E000000, maskD⟩ rfl (by decide) rfl (by decide) (by decide) (by simp) (by simp)

theorem flipWr (v : Byte) : Statement (.flipWr v) :=
  of_row 0xFFFF 0 ⟨"FLIP_WR", 0x4F000000, maskD⟩ rfl (by decide) rfl (by decide) (by decide) (by simp) (by simp)

theorem screenRefresh (full : Bool) : Statement (.screenRefresh full) := by
  cases full <;> exact ⟨⟨"SCREEN_REFRESH", 0x50000000, maskB⟩, by decide, rfl, by decide⟩

theorem fakeRd : Statement (.fakeRd) :=
  of_row 0xFFFF 0xFF ⟨"FAKE_RD", 0x60000000, maskZ⟩ rfl (by decide) rfl (by decide) (by decide) (by simp) (by simp)

theorem nopWr (off : Offset) (v : Byte) : Statement (.nopWr off v) :=
  of_row 0 0 ⟨"NOP_WR", 0x61000000, maskAD⟩ rfl (by decide) rfl (by decide) (by decide) (by simp) (by simp)

theorem mainIrqAck : Statement (.mainIrqAck) :=
  of_row 0xFFFF 0xFF ⟨"MAIN_IRQ_ACK", 0x70000000, maskZ⟩ rfl (by decide) rfl (by decide) (by decide) (by simp) (by simp)

theorem envInport (idx : Offset) (v : Byte) : Statement (.envInport idx v) :=
  of_row 0 0 ⟨"ENV_INPORT", 0x71000000, maskAD⟩ rfl (by decide) rfl (by decide) (by decide) (by simp) (by simp)

end Sys2Proof.Laws.EncodesRow
end

