-- ==== Sys2Proof/Machine/Pseudo.lean ====
section
/-! DEFINITION. The notation of the spec's scripts (30_encoding R112 to R114): one line of a transaction, and the
pseudo-operations of the protection MCU, each a fixed sequence of real operations. The expansion is textual: `cur` is
the value of `port_b_out` that the writer of the script knows, and the block computes none of it. -/
namespace Sys2Proof.Machine

open Sys2Proof

/-- `PB_SET b`: the byte written to Port B, which is also the final `port_b_out` (R113). -/
def pbSet (cur : Byte) (b : Nat) : Byte := cur ||| (1 <<< b)

/-- `PB_CLR b` (R113). -/
def pbClr (cur : Byte) (b : Nat) : Byte := cur &&& ~~~((1 : Byte) <<< b)

/-- `PB_PULSE_HI b`, for `cur[b] = 0` (R113). -/
def pbPulseHi (cur : Byte) (b : Nat) : List Instr := [.mcuPbWr (pbSet cur b), .mcuPbWr (pbClr (pbSet cur b) b)]

/-- `PB_PULSE_LO b`, for `cur[b] = 1` (R113). -/
def pbPulseLo (cur : Byte) (b : Nat) : List Instr := [.mcuPbWr (pbClr cur b), .mcuPbWr (pbSet (pbClr cur b) b)]

/-- `SET_ADDR a12` (R114). -/
def setAddr (cur : Byte) (a12 : BitVec 12) : List Instr :=
  .mcuPaWr (a12.extractLsb' 0 8) :: pbPulseHi cur 1 ++ .mcuPaWr (0#4 ++ a12.extractLsb' 8 4) :: pbPulseHi cur 2

/-- `PROXY_WRITE v` (R114). -/
def proxyWriteOps (cur v : Byte) : List Instr :=
  let low := pbClr cur 3
  [.mcuPaWr v, .mcuPbWr low, .mcuPbWr (pbSet low 4), .mcuPbWr (pbClr (pbSet low 4) 4)]

/-- `PROXY_READ` (R114): the last operation returns the byte. -/
def proxyReadOps (cur : Byte) : List Instr :=
  let high := pbSet cur 3
  let done := pbClr (pbSet high 4) 4
  [.mcuPbWr high, .mcuPbWr (pbSet high 4), .mcuPbWr done, .mcuPbWr (pbSet done 0), .mcuPbWr (pbClr (pbSet done 0) 0),
    .mcuDdraWr 0x00, .mcuPaRd]

/-- `RAISE_MAIN_IRQ` (R114). -/
def raiseMainIrqOps (cur : Byte) : List Instr := [.mcuPbWr (pbSet cur 5), .mcuPbWr (pbClr (pbSet cur 5) 5)]

/-- The transactions of operations that one agent issues in a row. -/
def transactionsOf (a : Agent) (is : List Instr) : List Transaction := is.map fun i => ⟨a, encode i⟩

/-- The name of an agent in a script (R112). -/
def agentName : Agent → String
  | .main => "MAIN"
  | .sub => "SUB"
  | .sound => "SOUND"
  | .mcu => "MCU"
  | .sched => "SCHED"
  | .env => "ENV"

/-- The operands of an operation, in the order `A` then `D`, each present if the format carries it (R92, R112). -/
def operandsOf : Instr → List Nat
  | .sr1Rd off | .sr2Rd off | .shrRd off | .romwinRd off => [off.toNat]
  | .vramRd off | .cramRd off | .objRd off | .objxRd off | .fgRd off => [off.toNat]
  | .sr1Wr off v | .sr2Wr off v | .shrWr off v => [off.toNat, v.toNat]
  | .vramWr off v | .cramWr off v | .objWr off v | .objxWr off v | .fgWr off v => [off.toNat, v.toNat]
  | .nopWr off v | .envInport off v => [off.toNat, v.toNat]
  | .bankWr v | .vidctrlWr v | .sndcmdWr v | .mcuPaWr v | .mcuDdraWr v | .mcuPbWr v | .mcuDdrbWr v => [v.toNat]
  | .scrxWr v | .scryloWr v | .scryhiWr v | .palbankWr v | .frontcolWr v | .flipWr v => [v.toNat]
  | .screenRefresh full => [full.toNat]
  | .sndlatchRd | .nmiDis _ | .nmiEn _ | .nmitrigWr _ | .mcuPaRd | .mcuPbRd | .mcuIrqTick | .fakeRd | .mainIrqAck => []

/-- One line of a script (R112), its numbers in decimal. -/
def scriptLine (a : Agent) (i : Instr) : String :=
  agentName a ++ ": " ++ i.mnemonic ++ " " ++ String.intercalate ", " ((operandsOf i).map Nat.repr)

end Sys2Proof.Machine
end

