-- ==== Sys2Proof/Tests/Slice0.lean ====
section
/-! SUPPORT. The model's own tests: the refusals of ill-formed requests, the words of the spec and what they decode to, one or
two single steps for each operation, and a witness for the hypotheses of each statement. Every expected value is
the spec's: a vector of 95_test_vectors, or worked by hand from the rule named. -/
namespace Sys2Proof.Tests

open Sys2Proof Sys2Proof.Machine Sys2Proof.Claims

/-! ## Helpers -/

/-- Machine-init of a board, with the agent that issues next; the MCU fitted, `PORT_B_IN` 0x00 as the vectors have it. -/
def machine (b : Board) (a : Agent) : State := { State.resetFor (Cfg.standard b true 0x00) with agent := a }

/-- The outcome is a next state of which the test holds. -/
def after (o : Host.Outcome State Fault Refusal) (p : State → Bool) : Bool :=
  match o with
  | .next t => p t
  | .fault _ => false
  | .refused _ => false

/-- The outcome is this refusal. -/
def refusedWith (o : Host.Outcome State Fault Refusal) (r : Refusal) : Bool :=
  match o with
  | .next _ => false
  | .fault _ => false
  | .refused q => q = r

/-- The byte the operation returned. -/
def returns (o : Host.Outcome State Fault Refusal) (v : Byte) : Bool := after o fun t => t.ret = some v

/-! ## Ill-formed requests (30_encoding R105) -/

/-- The operation does not exist on the board. -/
theorem test_wellFormed_refuses_absent_operation :
    (Instr.shrRd 0).WellFormed (Cfg.standard .bublbobl true 0) .main = false ∧
    refusedWith (exec (.shrRd 0) (machine .bublbobl .main)) .notOnBoard = true ∧
    refusedWith (exec .mcuPaRd (machine .kyugo .mcu)) .notOnBoard = true := by decide

/-- The agent has no wire to the operation. -/
theorem test_wellFormed_refuses_unwired_agent :
    (Instr.sr2Rd 0).WellFormed (Cfg.standard .bublbobl true 0) .mcu = false ∧
    refusedWith (exec (.sr2Rd 0) (machine .bublbobl .mcu)) .agentNotWired = true ∧
    refusedWith (exec (.sndcmdWr 1) (machine .kyugo .sound)) .agentNotWired = true := by decide

/-- The offset lies outside its space, or outside the window the issuer reaches. -/
theorem test_wellFormed_refuses_out_of_range :
    (Instr.sr2Rd 0x100).WellFormed (Cfg.standard .bootleg true 0) .main = false ∧
    (Instr.sr2Rd 0xFF).WellFormed (Cfg.standard .bootleg true 0) .main = true ∧
    refusedWith (exec (.sr1Rd 0x1800) (machine .bublbobl .main)) .outOfRange = true ∧
    refusedWith (exec (.vramWr 0x400 0) (machine .bublbobl .main)) .outOfRange = true ∧
    refusedWith (exec (.envInport 5 0) (machine .tokio .env)) .outOfRange = true := by decide

/-- Words that are no operation: an opcode not in the map, a field that must be zero, too few bytes. -/
theorem test_decode_refuses_by_name :
    decode 0xFF000000 = .error (.unknownOpcode 0xFF) ∧ decode 0x37000000 = .error (.unknownOpcode 0x37) ∧
    decode 0x000010A5 = .error (.nonzeroField 0x00) ∧ decode 0x10000100 = .error (.nonzeroField 0x10) ∧
    decode 0x23000100 = .error (.nonzeroField 0x23) ∧ decode 0x60000001 = .error (.nonzeroField 0x60) ∧
    decode 0x50000002 = .error (.nonzeroField 0x50) ∧ decodeBytes [0x20, 0x00, 0x00] = .error .truncated := by decide

/-! ## Decoding: every constructor, its fields `OP ++ A ++ D` written out (R91, R100) -/

theorem test_decode_shared_memory :
    decode (0b00000000#8 ++ 0b0001011111111111#16 ++ 0b00000000#8) = .ok (.sr1Rd 0x17FF) ∧
    decode (0b00000001#8 ++ 0b0000000000010000#16 ++ 0b10100101#8) = .ok (.sr1Wr 0x10 0xA5) ∧
    decode (0x02#8 ++ 0x00FF#16 ++ 0x00#8) = .ok (.sr2Rd 0xFF) ∧
    decode (0x03#8 ++ 0x03FF#16 ++ 0x01#8) = .ok (.sr2Wr 0x3FF 0x01) ∧
    decode (0x04#8 ++ 0x07FF#16 ++ 0x00#8) = .ok (.shrRd 0x7FF) ∧
    decode (0x05#8 ++ 0x07FF#16 ++ 0x01#8) = .ok (.shrWr 0x7FF 0x01) := by decide

theorem test_decode_bank_switch :
    decode (0b00010000#8 ++ 0b0000000000000000#16 ++ 0b11000011#8) = .ok (.bankWr 0xC3) ∧
    decode (0x11#8 ++ 0x0000#16 ++ 0x80#8) = .ok (.vidctrlWr 0x80) ∧
    decode (0x12#8 ++ 0x3FFF#16 ++ 0x00#8) = .ok (.romwinRd 0x3FFF) := by decide

theorem test_decode_sound_latch :
    decode (0b00100000#8 ++ 0b0000000000000000#16 ++ 0b01011010#8) = .ok (.sndcmdWr 0x5A) ∧
    decode (0x21#8 ++ 0x0000#16 ++ 0x00#8) = .ok .sndlatchRd ∧
    decode (0x22#8 ++ 0x0000#16 ++ 0x00#8) = .ok (.nmiDis 0x00) ∧
    decode (0x23#8 ++ 0x0000#16 ++ 0xFF#8) = .ok (.nmiEn 0xFF) ∧
    decode (0x24#8 ++ 0x0000#16 ++ 0x00#8) = .ok (.nmitrigWr 0x00) := by decide

theorem test_decode_protection_mcu :
    decode (0b00110000#8 ++ 0b0000000000000000#16 ++ 0b00000000#8) = .ok .mcuPaRd ∧
    decode (0x31#8 ++ 0x0000#16 ++ 0x34#8) = .ok (.mcuPaWr 0x34) ∧
    decode (0x32#8 ++ 0x0000#16 ++ 0x0F#8) = .ok (.mcuDdraWr 0x0F) ∧
    decode (0x33#8 ++ 0x0000#16 ++ 0x00#8) = .ok .mcuPbRd ∧
    decode (0b00110100#8 ++ 0b0000000000000000#16 ++ 0b00010110#8) = .ok (.mcuPbWr 0x16) ∧
    decode (0x35#8 ++ 0x0000#16 ++ 0x3F#8) = .ok (.mcuDdrbWr 0x3F) ∧
    decode (0x36#8 ++ 0x0000#16 ++ 0x00#8) = .ok .mcuIrqTick := by decide

theorem test_decode_video_ram :
    decode (0x40#8 ++ 0x0041#16 ++ 0x00#8) = .ok (.vramRd 0x41) ∧
    decode (0b01000001#8 ++ 0b0000000001000001#16 ++ 0b01111110#8) = .ok (.vramWr 0x41 0x7E) ∧
    decode (0x42#8 ++ 0x0041#16 ++ 0x00#8) = .ok (.cramRd 0x41) ∧
    decode (0x43#8 ++ 0x0041#16 ++ 0xA7#8) = .ok (.cramWr 0x41 0xA7) ∧
    decode (0x44#8 ++ 0x07FF#16 ++ 0x00#8) = .ok (.objRd 0x7FF) ∧
    decode (0x45#8 ++ 0x07FF#16 ++ 0xEF#8) = .ok (.objWr 0x7FF 0xEF) ∧
    decode (0x46#8 ++ 0x0028#16 ++ 0x00#8) = .ok (.objxRd 0x28) ∧
    decode (0x47#8 ++ 0x0028#16 ++ 0xFB#8) = .ok (.objxWr 0x28 0xFB) ∧
    decode (0x48#8 ++ 0x0029#16 ++ 0x00#8) = .ok (.fgRd 0x29) ∧
    decode (0x49#8 ++ 0x0029#16 ++ 0x50#8) = .ok (.fgWr 0x29 0x50) := by decide

theorem test_decode_video_registers :
    decode (0b01001010#8 ++ 0b0000000000000000#16 ++ 0b00001000#8) = .ok (.scrxWr 0x08) ∧
    decode (0x4B#8 ++ 0x0000#16 ++ 0x10#8) = .ok (.scryloWr 0x10) ∧
    decode (0x4C#8 ++ 0x0000#16 ++ 0xFF#8) = .ok (.scryhiWr 0xFF) ∧
    decode (0x4D#8 ++ 0x0000#16 ++ 0x03#8) = .ok (.palbankWr 0x03) ∧
    decode (0x4E#8 ++ 0x0000#16 ++ 0x02#8) = .ok (.frontcolWr 0x02) ∧
    decode (0x4F#8 ++ 0x0000#16 ++ 0x01#8) = .ok (.flipWr 0x01) := by decide

theorem test_decode_frame_and_misc :
    decode (0b01010000#8 ++ 0b0000000000000000#16 ++ 0b00000001#8) = .ok (.screenRefresh true) ∧
    decode (0x50#8 ++ 0x0000#16 ++ 0x00#8) = .ok (.screenRefresh false) ∧
    decode (0b01100000#8 ++ 0b0000000000000000#16 ++ 0b00000000#8) = .ok .fakeRd ∧
    decode (0x61#8 ++ 0xFA80#16 ++ 0x00#8) = .ok (.nopWr 0xFA80 0x00) ∧
    decode (0b01110000#8 ++ 0b0000000000000000#16 ++ 0b00000000#8) = .ok .mainIrqAck ∧
    decode (0x71#8 ++ 0x0002#16 ++ 0x7F#8) = .ok (.envInport 2 0x7F) := by decide

/-- The serialised bytes, first byte first (R91), with what follows them left over. -/
theorem test_decodeBytes_serialised_order :
    decodeBytes [0x03, 0x03, 0x34, 0xFF, 0x20] = .ok (.sr2Wr 0x334 0xFF, [0x20]) := by decide

/-- The host's numbering of a word's bits is the spec's: `OP` in bits 31:24. -/
theorem test_decodeTableWord : decodeTableWord 32 0x2000005A = some (.sndcmdWr 0x5A) := by decide

/-! ## Shared memory (95 section 2.1) -/

theorem test_sr1Rd_last_cell :
    returns (exec (.sr1Rd 0x17FF) { machine .bublbobl .sub with sharedram1 := [(0x17FF, 0x5C)] }) 0x5C = true ∧
    returns (exec (.sr1Rd 0x17FF) (machine .bublbobl .main)) 0x00 = true := by decide

theorem test_sr1Wr :
    after (exec (.sr1Wr 0x10 0xA5) (machine .bublbobl .main)) (fun t => t.sharedram1 = [(0x10, 0xA5)]) = true := by
  decide

/-- A cell written with the value an unlisted cell has leaves the list, so that equal memories are equal data. -/
theorem test_sr1Wr_canonical :
    after (exec (.sr1Wr 0x10 0x00) { machine .bublbobl .main with sharedram1 := [(0x08, 1), (0x10, 2), (0x18, 3)] })
      (fun t => t.sharedram1 = [(0x08, 1), (0x18, 3)]) = true := by decide

theorem test_sr2Rd :
    returns (exec (.sr2Rd 0xFF) { machine .bootleg .main with sharedram2 := [(0xFE, 1), (0xFF, 2)] }) 2 = true := by
  decide

theorem test_sr2Wr :
    after (exec (.sr2Wr 0x3FF 0x01) { machine .bublbobl .sub with sharedram2 := [(0, 9)] })
      (fun t => t.sharedram2 = [(0, 9), (0x3FF, 1)]) = true := by decide

theorem test_shrRd :
    returns (exec (.shrRd 0x7FF) { machine .kyugo .main with sharedRam := [(0x7FF, 1)] }) 0x01 = true := by decide

theorem test_shrWr :
    after (exec (.shrWr 0x7FF 0x01) (machine .kyugo .sub)) (fun t => t.sharedRam = [(0x7FF, 1)]) = true := by decide

/-! ## Bank switch (T1, 95 section 2.2) -/

theorem test_bankWr_bublbobl :
    after (exec (.bankWr 0x03) (machine .bublbobl .main))
      (fun t => t.bankIndex = 7 ∧ t.videoEnable = false ∧ t.flipScreen = false) = true ∧
    after (exec (.bankWr 0xC0) { machine .bublbobl .main with dirty := [], repaint := false })
      (fun t => t.bankIndex = 4 ∧ t.videoEnable ∧ t.flipScreen ∧ t.repaint ∧ t.dirty.length = 0x400) = true := by
  decide +kernel

theorem test_bankWr_tokio :
    after (exec (.bankWr 0xC3) { machine .tokio .main with dirty := [] })
      (fun t => t.bankIndex = 3 ∧ t.videoEnable ∧ t.flipScreen = false ∧ t.dirty = []) = true := by decide

theorem test_vidctrlWr :
    after (exec (.vidctrlWr 0x80) { machine .tokio .main with dirty := [], repaint := false })
      (fun t => t.flipScreen ∧ t.dirty.length = 0x400 ∧ t.repaint) = true ∧
    after (exec (.vidctrlWr 0x00) { machine .tokio .main with dirty := [], repaint := false })
      (fun t => t.flipScreen = false ∧ t.dirty = [] ∧ t.repaint = false) = true := by decide +kernel

/-- Bank 7, the last byte of the window: `rom[ROM_BASE + 0x1C000 + 0x3FFF]`. -/
theorem test_romwinRd :
    let s : State := { machine .bublbobl .main with bankIndex := 7 }
    exec (.romwinRd 0x3FFF) s = .next { s with ret := some (Config.rom (Config.romBase + 0x1C000 + 0x3FFF)) } ∧
    refusedWith (exec (.romwinRd 0x4000) s) .outOfRange = true := by
  refine ⟨(exec_next_iff _ _ _).2 ⟨by decide, ?_⟩, by decide⟩
  simp [effect, State.reply, State.romIndex, Cfg.standard, BoardParams.standard, machine, State.resetFor]

/-! ## Sound latch (T3, 95 section 2.3) -/

theorem test_sndcmdWr_gate_closed :
    after (exec (.sndcmdWr 0x5A) (machine .bublbobl .main))
      (fun t => t.sndCmd = 0x5A ∧ t.nmiPending ∧ t.nmiEnabled = false ∧ t.events = []) = true := by decide

theorem test_sndcmdWr_gate_open :
    after (exec (.sndcmdWr 0x33) { machine .kyugo .main with nmiEnabled := true })
      (fun t => t.sndCmd = 0x33 ∧ t.nmiPending = false ∧ t.nmiEnabled ∧ t.events = [.nmiSound]) = true := by decide

theorem test_sndlatchRd :
    after (exec .sndlatchRd { machine .kyugo .sound with sndCmd := 0x22, nmiPending := true })
      (fun t => t.ret = some 0x22 ∧ t.nmiPending ∧ t.sndCmd = 0x22 ∧ t.events = []) = true := by decide

theorem test_nmiDis_keeps_pending :
    after (exec (.nmiDis 0) { machine .bublbobl .sound with nmiPending := true })
      (fun t => t.nmiEnabled = false ∧ t.nmiPending ∧ t.events = []) = true := by decide

theorem test_nmiEn_pending :
    after (exec (.nmiEn 0xFF) { machine .bublbobl .sound with nmiPending := true })
      (fun t => t.nmiEnabled ∧ t.nmiPending = false ∧ t.events = [.nmiSound]) = true := by decide

theorem test_nmiEn_idle :
    after (exec (.nmiEn 0) (machine .bublbobl .sound))
      (fun t => t.nmiEnabled ∧ t.nmiPending = false ∧ t.events = []) = true := by decide

theorem test_nmitrigWr :
    after (exec (.nmitrigWr 0) { machine .tokio .main with events := [.nmiSub], nmiPending := true })
      (fun t => t.events = [.nmiSub, .nmiSub] ∧ t.nmiPending ∧ t.nmiEnabled = false) = true := by decide

/-! ## Protection MCU (T2, T4a, 95 section 2.4) -/

/-- The table of T2. -/
theorem test_portRead :
    portRead 0xF0 0x3C 0x0F = 0x30 ∧ portRead 0xAA 0x55 0xFF = 0xAA ∧ portRead 0xAA 0x55 0x00 = 0x55 ∧
    portRead 0xFF 0x00 0xA5 = 0xA5 ∧ portRead 0x00 0xFF 0xA5 = 0x5A ∧ portRead 0x12 0x12 0x6B = 0x12 := by decide

theorem test_mcuPaRd :
    returns (exec .mcuPaRd { machine .bublbobl .mcu with portAOut := 0xF0, portAIn := 0x3C, ddrA := 0x0F }) 0x30
      = true := by decide

theorem test_mcuPaWr :
    after (exec (.mcuPaWr 0x34) (machine .bublbobl .mcu)) (fun t => t.portAOut = 0x34 ∧ t.portAIn = 0) = true := by
  decide

theorem test_mcuDdraWr :
    after (exec (.mcuDdraWr 0x0F) (machine .bublbobl .mcu)) (fun t => t.ddrA = 0x0F ∧ t.ddrB = 0) = true := by decide

/-- M18: the pins of Port B show `PORT_B_IN`. -/
theorem test_mcuPbRd :
    returns (exec .mcuPbRd
      { machine .bublbobl .mcu with cfg := Cfg.standard .bublbobl true 0x50, portBOut := 0xC3, ddrB := 0x0F }) 0x53 = true := by
  decide

/-- M3: bit 1 rises and bit 4 falls in one write; the read uses the address the first action left. -/
theorem test_mcuPbWr_actions_in_order :
    after (exec (.mcuPbWr 0x0A) { machine .bublbobl .mcu with
        ddrB := 0x3F, portAOut := 0x10, address := 0x0C00, portBOut := 0x18, sharedram2 := [(0, 0x33), (0x10, 0x22)] })
      (fun t => t.address = 0x0C10 ∧ t.latch = 0x22 ∧ t.portBOut = 0x0A ∧ t.events = []) = true := by decide

/-- M9, M11 and M10: an unmapped read, an input port, a write into the input-port window. -/
theorem test_mcuPbWr_address_decode :
    after (exec (.mcuPbWr 0x08) { machine .bublbobl .mcu with
        ddrB := 0x3F, address := 0x0800, portBOut := 0x18, latch := 0x44 })
      (fun t => t.latch = 0x44 ∧ t.events = [.diag 0x01 0x0800]) = true ∧
    after (exec (.mcuPbWr 0x08) { machine .bublbobl .mcu with
        ddrB := 0x3F, address := 0x0007, portBOut := 0x18, inp := #v[0xA0, 0xA1, 0xA2, 0xA3, 0xA4] })
      (fun t => t.latch = 0xA4 ∧ t.events = []) = true ∧
    after (exec (.mcuPbWr 0x00) { machine .bublbobl .mcu with
        ddrB := 0x3F, address := 0x0003, portBOut := 0x10, portAOut := 0x66 })
      (fun t => t.sharedram2 = [] ∧ t.events = [.diag 0x02 0x0003]) = true := by decide

/-- M5 with the draw fixed at 5: `sharedram2[0x7C]` takes the draw and the vector is `sharedram2[0]`. -/
theorem test_raiseMainIrqWith :
    let t := ({ machine .bublbobl .mcu with sharedram2 := [(0, 0x2E), (0x7C, 0x77)] } : State).raiseMainIrqWith 5
    t.sharedram2 = [(0, 0x2E), (0x7C, 5)] ∧ t.mainIrqVector = 0x2E ∧ t.mainIrqPending = true ∧
    t.events = [.irqMain 0x2E] := by decide

/-- M2's deliver edge and M1's two loads. -/
theorem test_edges_deliver_and_loads :
    detectEdges 0x19 0x08 0x3F = ⟨true, false, false, true, false⟩ ∧
    detectEdges 0x00 0x06 0x3F = ⟨false, true, true, false, false⟩ ∧
    ({ machine .bublbobl .mcu with portAOut := 0xAB } : State).loadAddrLow.loadAddrHigh.address = 0x0BAB ∧
    ({ machine .bublbobl .mcu with latch := 0x11 } : State).deliver.portAIn = 0x11 := by decide

/-- M7: the direction changes, the pin was 1 already: no edge. -/
theorem test_mcuDdrbWr :
    after (exec (.mcuDdrbWr 0x3F) { machine .bublbobl .mcu with portBOut := 0x02, portAOut := 0x34 })
      (fun t => t.ddrB = 0x3F ∧ t.address = 0 ∧ t.portBOut = 0x02) = true := by decide

theorem test_mcuIrqTick :
    after (exec .mcuIrqTick { machine .bublbobl .sched with mcuIrqLine := true, events := [.irqMcu true] })
      (fun t => t.mcuIrqLine = false ∧ t.events = [.irqMcu true, .irqMcu false]) = true := by decide

theorem test_mainIrqAck :
    after (exec .mainIrqAck { machine .bublbobl .main with mainIrqVector := 0x20, mainIrqPending := true })
      (fun t => t.ret = some 0x20 ∧ t.mainIrqPending = false ∧ t.mainIrqVector = 0x20) = true ∧
    returns (exec .mainIrqAck (machine .bublbobl .main)) 0x00 = true := by decide

/-! ## Video RAM and registers (95 section 2.5) -/

theorem test_vramRd :
    after (exec (.vramRd 0x41) { machine .kyugo .main with vram := [(0x41, 0x7E)], dirty := [] })
      (fun t => t.ret = some 0x7E ∧ t.dirty = []) = true := by decide

theorem test_vramWr :
    after (exec (.vramWr 0x41 0x7E) { machine .kyugo .main with dirty := [0x40, 0x42] })
      (fun t => t.vram = [(0x41, 0x7E)] ∧ t.dirty = [0x40, 0x41, 0x42]) = true ∧
    after (exec (.vramWr 0x7FF 0x00) { machine .kyugo .main with dirty := [] })
      (fun t => t.vram = [] ∧ t.dirty = [0x7FF]) = true := by decide

theorem test_cramRd :
    returns (exec (.cramRd 0x3FF) { machine .tokio .main with cram := [(0x3FF, 0xA7)] }) 0xA7 = true := by decide

theorem test_cramWr :
    after (exec (.cramWr 0x41 0xA7) { machine .kyugo .main with dirty := [0x41] })
      (fun t => t.cram = [(0x41, 0xA7)] ∧ t.dirty = [0x41]) = true ∧
    after (exec (.cramWr 3 0x10) { machine .bublbobl .main with dirty := [], repaint := false })
      (fun t => t.dirty = [3] ∧ t.repaint) = true := by decide

theorem test_objRd :
    returns (exec (.objRd 0x2FF) { machine .bublbobl .main with objram := [(0x2FF, 0x11)] }) 0x11 = true ∧
    refusedWith (exec (.objRd 0x300) (machine .bublbobl .main)) .outOfRange = true := by decide

theorem test_objWr :
    after (exec (.objWr 0x7FF 0xEF) { machine .kyugo .main with dirty := [] })
      (fun t => t.objram = [(0x7FF, 0xEF)] ∧ t.dirty = []) = true := by decide

theorem test_objxRd :
    returns (exec (.objxRd 0x28) { machine .kyugo .main with objxram := [(0x28, 0xB)] }) 0x0B = true := by decide

theorem test_objxWr :
    after (exec (.objxWr 0x28 0xFB) (machine .kyugo .main)) (fun t => t.objxram = [(0x28, 0xB)]) = true := by decide

theorem test_fgRd :
    returns (exec (.fgRd 0x7FF) { machine .kyugo .main with fgram := [(0x7FF, 0x41)] }) 0x41 = true := by decide

theorem test_fgWr :
    after (exec (.fgWr 0x29 0x50) { machine .kyugo .main with dirty := [] })
      (fun t => t.fgram = [(0x29, 0x50)] ∧ t.dirty = []) = true := by decide

theorem test_scrxWr :
    after (exec (.scrxWr 0xFF) (machine .tokio .main)) (fun t => t.backScrollX = 0xFF) = true := by decide

theorem test_scryloWr :
    after (exec (.scryloWr 0x10) { machine .kyugo .main with backScrollYHi := 1 }) (fun t => t.scrollV = 0x110)
      = true := by decide

theorem test_scryhiWr :
    after (exec (.scryhiWr 0xFE) { machine .kyugo .main with backScrollYHi := 1 }) (fun t => t.backScrollYHi = 0)
      = true ∧
    after (exec (.scryhiWr 0xFF) (machine .kyugo .main)) (fun t => t.backScrollYHi = 1) = true := by decide

theorem test_palbankWr :
    after (exec (.palbankWr 0x03) { machine .kyugo .main with dirty := [] })
      (fun t => t.paletteBank = 1 ∧ t.dirty.length = 0x800) = true ∧
    after (exec (.palbankWr 0x00) { machine .kyugo .main with dirty := [] })
      (fun t => t.paletteBank = 0 ∧ t.dirty = []) = true := by decide +kernel

theorem test_frontcolWr :
    after (exec (.frontcolWr 0x02) { machine .kyugo .main with frontColor := 1 }) (fun t => t.frontColor = 0) = true ∧
    after (exec (.frontcolWr 0x03) (machine .kyugo .main)) (fun t => t.frontColor = 1) = true := by decide

theorem test_flipWr :
    after (exec (.flipWr 0x01) { machine .kyugo .main with dirty := [] })
      (fun t => t.flipScreen ∧ t.dirty.length = 0x800) = true ∧
    after (exec (.flipWr 0x01) { machine .kyugo .main with dirty := [], flipScreen := true })
      (fun t => t.flipScreen ∧ t.dirty = []) = true := by decide +kernel

/-! ## Compositor (95 sections 1 and 2.6) -/

/-- T6. -/
theorem test_dac :
    dac 0x0F = 0xFF ∧ dac 0x00 = 0x00 ∧ dac 0x01 = 0x0E ∧ dac 0x02 = 0x1F ∧ dac 0x04 = 0x43 ∧ dac 0x08 = 0x8F ∧
    dac 0x05 = 0x51 ∧ dac 0x0A = 0xAE ∧ dac 0xF5 = 0x51 := by decide

/-- The three rows of the `DrawBgCell` table. -/
theorem test_bgTile :
    let s : State := { machine .kyugo .main with vram := [(0x41, 0x7E)], cram := [(0x41, 0xA7)] }
    s.bgTile 0x41 = ⟨.bg, 894, 10, true, false, 8, 8⟩ ∧
    ({ s with paletteBank := 1 } : State).bgTile 0x41 = ⟨.bg, 894, 26, true, false, 8, 8⟩ ∧
    ({ s with flipScreen := true } : State).bgTile 0x41 = ⟨.bg, 894, 10, false, true, 496, 240⟩ := by decide

/-- Rows of the `ScrollOffset` table. -/
theorem test_scrollOffset :
    (machine .kyugo .main).scrollOffset Config.gfx = (-32, 0) ∧
    ({ machine .kyugo .main with backScrollYLo := 0x10, backScrollYHi := 1, backScrollX := 8 } : State).scrollOffset
      Config.gfx = (-304, -8) ∧
    ({ machine .kyugo .main with backScrollYLo := 0x10, backScrollYHi := 1, backScrollX := 8, flipScreen := true }
      : State).scrollOffset Config.gfx = (-304, 8) := ⟨rfl, rfl, rfl⟩

/-- The sprite rows: offsets, `sx` with its wrap, code, colour and flips. -/
theorem test_spriteTile :
    spriteOffs (.standard .k) 0 = 0x28 ∧ spriteOffs (.standard .k) 11 = 0x3E ∧
    spriteOffs (.standard .k) 12 = 0x68 ∧ spriteOffs (.standard .k) 23 = 0x7E ∧
    ({ machine .kyugo .main with fgram := [(0x29, 0x41)], objxram := [(0x29, 1)] } : State).spriteX 0x28 = -191 ∧
    ({ machine .kyugo .main with fgram := [(0x29, 0x40)], objxram := [(0x29, 1)] } : State).spriteX 0x28 = 320 ∧
    ({ machine .kyugo .main with
        objram := [(0x28, 0xEF), (0x29, 0xE5)], fgram := [(0x28, 0x10)], objxram := [(0x28, 0xD)] }
      : State).spriteTile 0 0 = ⟨.spr, 528, 5, true, true, 0, 16⟩ ∧
    ({ machine .kyugo .main with objram := [(0x28, 0xEF)], objxram := [(0x28, 8)], flipScreen := true }
      : State).spriteTile 0 0 = ⟨.spr, 0, 0, false, true, 0, 224⟩ := by decide

/-- The graphics of the `Blit` table. -/
def blitGfx : Gfx where
  tileGfx _ _ px py := if px = 0 ∧ py = 0 then 1 else 2
  clut last _ color pen := Fin.ofNat (last + 1) (16 * color + pen)
  colorCodes _ := 0
  sScroll := sScrollDefault
  sObj := sObjDefault (.standard .s)

/-- Foreground cell 0x41 and the variant S rows. -/
theorem test_fgTile_and_objTile :
    ({ machine .kyugo .main with fgram := [(0x41, 0x41)], frontColor := 1 } : State).fgTile blitGfx 0x41
      = ⟨.fg, 65, 1, false, false, 8, 8⟩ ∧
    (({ machine .kyugo .main with flipScreen := true } : State).fgTile blitGfx 36).x = -8 ∧
    ({ machine .tokio .main with objram := [(0, 0x10), (1, 0x20), (2, 0x30), (3, 1)], flipScreen := true }
      : State).objTile blitGfx 0 = some ⟨.spr, 0x120, 0, true, true, 224, 192⟩ ∧
    sScrollDefault 8 4 0 true = (8, 4) := by decide

/-- A small bitmap with one tile: the pen-1 corner moves with the flips, and a pixel outside the clip is not written. -/
theorem test_blit :
    let draw (fx fy : Bool) := blit (.standard .k) blitGfx ⟨0, 15, 4, 11⟩ .none (Bitmap.blank 16 12) ⟨.bg, 0, 1, fx, fy, 8, 4⟩
    (draw false false).get 8 4 = 0x11 ∧ (draw true false).get 15 4 = 0x11 ∧ (draw false true).get 8 11 = 0x11 ∧
    (draw true true).get 15 11 = 0x11 ∧ (draw false false).get 15 11 = 0x12 ∧ (draw false false).get 7 4 = 0 ∧
    (blit (.standard .k) blitGfx ⟨0, 15, 4, 11⟩ .none (Bitmap.blank 16 12) ⟨.bg, 0, 1, false, false, 8, 0⟩).get 8 3 = 0 := by
  decide +kernel

/-- With video off the refresh leaves the marks, the repaint flag and `tmp`; with video on it clears the marks. -/
theorem test_screenRefresh_marks :
    after (exec (.screenRefresh true) { machine .bublbobl .sched with dirty := [3] })
      (fun t => t.dirty = [3] ∧ t.repaint) = true ∧
    after (exec (.screenRefresh false) (machine .tokio .sched)) (fun t => t.dirty = [] ∧ t.repaint = false) = true := by
  decide

/-- T5: after a frame only the cell written is drawn again. -/
theorem test_redrawCells :
    ({ machine .kyugo .sched with dirty := [5] } : State).redrawCells = [5] ∧
    ({ machine .tokio .sched with dirty := [5] } : State).redrawCells.length = 0x400 ∧
    ({ machine .tokio .sched with dirty := [], repaint := false } : State).redrawCells = [] := by decide +kernel

/-- The geometry is an argument: a machine of 2 by 3 cells of 4 pixels has 6 cells of background, and its `tmp` and its
`fb` have its sizes. -/
theorem test_geometry_is_an_argument :
    let q : Geometry := { Geometry.standard .s with bgCols := 2, bgRows := 3, bgTile := 4, fbW := 8, nColors := 16 }
    let s : State := { State.resetFor { Cfg.standard .tokio true 0 with geometry := q } with agent := .main, dirty := [] }
    after (exec (.vramWr 5 1) s) (fun t => t.vram = [(5, 1)] ∧ t.dirty = [5]) = true ∧
    refusedWith (exec (.vramWr 6 1) s) .outOfRange = true ∧
    (s.tmp.w = 8 ∧ s.tmp.h = 12 ∧ s.fb.w = 8 ∧ s.palette.length = 16) ∧
    s.bgTile 5 = ⟨.bg, 0, 0, false, false, 4, 8⟩ ∧ q.colour blitGfx .bg 1 2 = 2 := by decide

/-- The parameters of the per-board table are arguments: a `sharedram1` of 0x800 bytes, a `shared_ram` of 0x1000, other
bits of the bank register. -/
theorem test_board_parameters_are_arguments :
    let c := Cfg.standard .tokio true 0
    let s : State := { machine .tokio .main with cfg := { c with
      sr1Size := 0x800, hasShr := true, shrSize := 0x1000, xorMask := 1, veMask := 0x20, bankFlipMask := 0x10 } }
    refusedWith (exec (.sr1Rd 0x800) s) .outOfRange = true ∧
    after (exec (.sr1Wr 0x7FF 1) s) (fun t => t.sharedram1 = [(0x7FF, 1)]) = true ∧
    after (exec (.shrWr 0xFFF 1) s) (fun t => t.sharedRam = [(0xFFF, 1)]) = true ∧
    refusedWith (exec (.shrWr 0x1000 1) s) .outOfRange = true ∧
    after (exec (.bankWr 0x16) s) (fun t => t.bankIndex = 7 ∧ !t.videoEnable ∧ t.flipScreen) = true := by decide

/-- The identity of the machine (00_scope R2). -/
theorem test_identity : (Cfg.standard .kyugo false 0).identity.revision = "v7" ∧
    Config.shipped.identity.board = .bublbobl := by decide

/-! ## Miscellaneous and inputs (95 section 2.7) -/

theorem test_fakeRd : returns (exec .fakeRd (machine .tokio .main)) 0xBF = true := by decide

theorem test_nopWr :
    exec (.nopWr 0xFA80 0x00) (machine .bublbobl .main) = .next (machine .bublbobl .main) ∧
    exec (.nopWr 0xFFFF 0xFF) (machine .kyugo .sound) = .next (machine .kyugo .sound) := ⟨rfl, rfl⟩

theorem test_envInport :
    after (exec (.envInport 2 0x7F) { machine .bublbobl .env with inp := #v[1, 2, 3, 4, 5] })
      (fun t => t.inp = #v[1, 2, 0x7F, 4, 5]) = true ∧
    after (exec (.envInport 4 0x00) { machine .bublbobl .env with inp := #v[1, 2, 3, 4, 5] })
      (fun t => t.inp = #v[1, 2, 3, 4, 0]) = true := by decide

/-! ## The step -/

/-- A step takes the next transaction, and the state after reset runs the word it is given. -/
theorem test_step_runs_fetched_word :
    after (step (State.reset.withFetchWord 32 0x03001099)) (fun t => t.sharedram2 = [(0x10, 0x99)] ∧ t.script = [])
      = true ∧
    after (step (State.reset.withFetchWord 32 0x4F000001)) (fun t => t.cfg.board = .kyugo ∧ t.flipScreen) = true ∧
    refusedWith (step (State.reset.withFetchWord 32 0x06000000)) (.badWord (.unknownOpcode 0x06)) = true := by decide

/-- The words of program P1: steps 2 to 7, 8 to 10 (its first word makes no edge and may be omitted), 11 and 12. -/
theorem test_pseudo_operations :
    (setAddr 0x00 0xC00).map encode =
      [0x31000000, 0x34000002, 0x34000000, 0x3100000C, 0x34000004, 0x34000000] ∧
    (proxyWriteOps 0x00 0x2E).map encode = [0x3100002E, 0x34000000, 0x34000010, 0x34000000] ∧
    (raiseMainIrqOps 0x00).map encode = [0x34000020, 0x34000000] ∧
    (proxyReadOps 0x00).map encode =
      [0x34000008, 0x34000018, 0x34000008, 0x34000009, 0x34000008, 0x32000000, 0x30000000] := by decide

/-! ## Witnesses: the hypotheses of each statement are met, at the boundaries of its ranges

`witness_<statement>` shows concrete states and operands that meet the hypotheses of `Obligations.<statement>`: for the
statements of an operation a state that is admitted and one that is not; for a statement of what may change, an
operation that changes it. Statements without hypotheses have none. -/

theorem witness_EncodeOfDecodeIsTheWord : ∃ i, decode 0x0017FF00 = .ok i := ⟨.sr1Rd 0x17FF, by decide⟩

theorem witness_DecoderAcceptsExactlyTheOpcodeTable :
    ∃ i, decode 0x71000400 = .ok i ∧ ∃ row ∈ opcodeTable, (0x71000400 : Word) &&& row.mask = row.pattern :=
  ⟨.envInport 4 0, by decide⟩

theorem witness_StepPerformsTheNextTransaction :
    ∃ (s : State) (t : Transaction) (rest : List Transaction) (i : Instr),
      s.script = t :: rest ∧ decode t.word = .ok i :=
  ⟨{ machine .bublbobl .main with script := [⟨.main, 0x03001099⟩] }, ⟨.main, 0x03001099⟩, [], .sr2Wr 0x10 0x99, rfl,
    by decide⟩

theorem witness_StepRefusesWordsOutsideTheMap :
    (∀ row ∈ opcodeTable, (0x06000000 : Word).extractLsb' 24 8 ≠ row.pattern.extractLsb' 24 8) ∧
    ∃ row ∈ opcodeTable, (0x50000002 : Word).extractLsb' 24 8 = row.pattern.extractLsb' 24 8 ∧
      (0x50000002 : Word) &&& row.mask ≠ row.pattern := by decide

theorem witness_BlockDoesNothingOnItsOwn : State.reset.script = [] := rfl

theorem witness_AdmittedScriptIsNeverRefused :
    ({ machine .bublbobl .main with script := [⟨.main, 0x03001099⟩, ⟨.sched, 0x50000001⟩] } : State).scriptAdmitted := by
  intro t ht
  rcases List.mem_cons.1 ht with rfl | ht
  · exact ⟨.sr2Wr 0x10 0x99, by decide, by decide⟩
  · rcases List.mem_singleton.1 ht with rfl
    exact ⟨.screenRefresh true, by decide, by decide⟩

theorem witness_BoardTable :
    ∀ (b : Board) (fitted : Bool), ∃ c : Cfg, c.toBoardParams = BoardParams.standard b fitted :=
  fun b fitted => ⟨Cfg.standard b fitted 0, rfl⟩

/-- A configuration that meets its premises with a geometry and a size of `sharedram1` that are not the defaults. -/
theorem witness_InvariantHoldsAtReset :
    ∃ c : Cfg, c.Sound ∧ c.geometry ≠ Geometry.standard c.variant ∧ c.sr1Size = 0x800 :=
  ⟨{ Cfg.standard .tokio true 0 with
      sr1Size := 0x800, geometry := { Geometry.standard .s with bgCols := 64, nColors := 16 } },
    by
      constructor <;>
        simp [Cfg.standard, BoardParams.standard, Board.variant, Geometry.standard, Geometry.tmpW, Geometry.tmpH],
    by decide, rfl⟩

theorem witness_PaletteDecode : 255 < (Cfg.standard .kyugo true 0).geometry.nColors := by decide

theorem witness_ResetValues :
    (Cfg.standard .tokio true 0).variant = .s ∧ OfBoard (State.resetFor (Cfg.standard .tokio true 0)) .tokio :=
  ⟨rfl, true, rfl⟩

/-- A machine whose memories, marks and bitmaps are as its steps leave them: one cell written, one frame to come. -/
def soundMachine (b : Board) : State :=
  { machine b .sched with vram := [(5, 0x10)], script := [⟨.sched, 0x50000000⟩] }

theorem soundMachine_inv (b : Board) : (soundMachine b).Inv where
  configuration := standard_sound b true 0x00
  canonical := by constructor <;> simp [soundMachine, machine, State.resetFor, Memory.wf, Memory.unlisted]
  within := by
    constructor <;> simp [soundMachine, machine, State.resetFor, Memory.within]
    cases b <;> decide
  latch := by simp [State.LatchSound, soundMachine, machine, State.resetFor]
  address := by simp [State.AddressTwelveBits, soundMachine, machine, State.resetFor]
  dirty := ⟨List.pairwise_lt_range, fun n hn => List.mem_range.1 hn, fun _ _ => rfl⟩
  palette := rfl
  bitmaps := ⟨Bitmap.blank_sized _ _, Bitmap.blank_sized _ _⟩
  pixels := ⟨Bitmap.blank_below (standard_sound b true 0x00).colours _ _,
    Bitmap.blank_below (standard_sound b true 0x00).colours _ _⟩

theorem soundMachine_current (b : Board) : (soundMachine b).BackgroundCurrent Config.gfx :=
  fun _ hn hd => absurd (List.mem_range.2 hn) hd

theorem soundMachine_refresh (full : Bool) : ∃ t, exec (.screenRefresh full) (soundMachine .kyugo) = .next t :=
  ⟨_, rfl⟩

theorem witness_StepKeepsTheInvariant : ∃ s t : State, s.Inv ∧ step s = .next t :=
  ⟨soundMachine .kyugo, _, soundMachine_inv _, rfl⟩

theorem witness_StepKeepsUnmarkedCellsCurrent :
    ∃ s t : State, s.Inv ∧ s.BackgroundCurrent Config.gfx ∧ step s = .next t :=
  ⟨soundMachine .tokio, _, soundMachine_inv _, soundMachine_current _, rfl⟩

theorem witness_FrameLeavesEveryCellCurrent :
    ∃ s t : State, s.Inv ∧ s.BackgroundCurrent Config.gfx ∧ s.videoEnabled = true ∧
      exec (.screenRefresh false) s = .next t ∧ 0x7FF < vramSize s ∧ 7 < s.cfg.geometry.bgTile :=
  ⟨soundMachine .kyugo, _, soundMachine_inv _, soundMachine_current _, rfl, rfl, by decide, by decide⟩

theorem witness_FullAndIncrementalRefreshAgree :
    ∃ s t u : State, s.Inv ∧ s.BackgroundCurrent Config.gfx ∧ exec (.screenRefresh false) s = .next t ∧
      exec (.screenRefresh true) s = .next u :=
  ⟨soundMachine .kyugo, _, _, soundMachine_inv _, soundMachine_current _, rfl, rfl⟩

theorem witness_RepeatedRefreshShowsTheSameFrame :
    ∃ s t u : State, s.Inv ∧ s.BackgroundCurrent Config.gfx ∧ exec (.screenRefresh false) s = .next t ∧
      exec (.screenRefresh true) t = .next u :=
  ⟨soundMachine .kyugo, _, _, soundMachine_inv _, soundMachine_current _, rfl, rfl⟩

theorem witness_EveryVisiblePixelOfAFrame :
    ∃ s t : State, s.cfg.Sound ∧ s.BitmapsSized ∧ s.videoEnabled = true ∧ exec (.screenRefresh false) s = .next t ∧
      s.cfg.geometry.clip.holds 0 16 = true ∧ s.cfg.geometry.clip.holds 287 239 = true :=
  ⟨soundMachine .kyugo, _, (soundMachine_inv _).configuration, (soundMachine_inv _).bitmaps, rfl, rfl, by decide,
    by decide⟩

theorem witness_PixelsOutsideTheClipAreNeverWritten :
    ∃ s t : State, s.cfg.Sound ∧ s.BitmapsSized ∧ step s = .next t ∧ 287 < s.cfg.geometry.fbW ∧ 240 < s.cfg.geometry.fbH ∧
      s.cfg.geometry.clip.holds 287 15 = false ∧ s.cfg.geometry.clip.holds 287 240 = false :=
  ⟨soundMachine .kyugo, _, (soundMachine_inv _).configuration, (soundMachine_inv _).bitmaps, rfl, by decide⟩

theorem witness_DisabledVideoShowsTheFillIndex :
    (∃ s : State, s.cfg.veMask ≠ 0 ∧ s.videoEnable = false ∧ s.agent = .sched ∧ s.cfg.Sound ∧
      s.fb.sized s.cfg.geometry.fbW s.cfg.geometry.fbH) ∧
    OfBoard (machine .kyugo .main) .kyugo ∧ OfBoard (machine .tokio .main) .tokio :=
  ⟨⟨machine .bublbobl .sched, by decide, rfl, rfl, standard_sound _ _ _, Bitmap.blank_sized _ _⟩, ⟨true, rfl⟩, true, rfl⟩

theorem witness_KyugoScrollMapping :
    ∃ (s : State) (fb : Bitmap), VariantK s ∧ s.cfg.Sound ∧ fb.sized s.cfg.geometry.fbW s.cfg.geometry.fbH ∧
      s.cfg.geometry.clip.holds 287 239 = true ∧ s.cfg.geometry.clip.holds 0 16 = true :=
  ⟨machine .kyugo .main, Bitmap.blank 288 256, rfl, standard_sound _ _ _, Bitmap.blank_sized _ _, by decide, by decide⟩

theorem witness_BackgroundCellsDoNotOverlap :
    (0x7FF < vramSize (machine .kyugo .main) ∧
      ((machine .kyugo .main).bgTile 0x7FF).covers (.standard .k) 511 255 = true) ∧
    (0x3FF < vramSize (machine .tokio .main) ∧
      ((machine .tokio .main).bgTile 0x3FF).covers (.standard .s) 255 255 = true) := by decide

/-! ### Operations -/

/-- Admitted requests at the last cell of each space, and the first refused offset. -/
theorem witness_SharedRam1Operations :
    (HasSr12 (machine .tokio .sub) ∧ FromCpu (machine .tokio .sub) ∧ (0x17FF : Offset).toNat < (machine .tokio .sub).cfg.sr1Size) ∧
    ¬(0x1800 : Offset).toNat < (machine .tokio .sub).cfg.sr1Size := by decide

theorem witness_SharedRam2Operations :
    (HasSr12 (machine .bootleg .main) ∧ FromCpu (machine .bootleg .main) ∧ OfBoard (machine .bootleg .main) .bootleg ∧
      (0xFF : Offset).toNat < (machine .bootleg .main).cfg.sr2CpuWindow ∧
      ¬(0x100 : Offset).toNat < (machine .bootleg .main).cfg.sr2CpuWindow) ∧
    HasSr12 (machine .bublbobl .main) ∧ OfBoard (machine .bublbobl .main) .bublbobl ∧
    (0x3FF : Offset).toNat < (machine .bublbobl .main).cfg.sr2CpuWindow ∧
    ¬(0x400 : Offset).toNat < (machine .bublbobl .main).cfg.sr2CpuWindow := by decide

theorem witness_KyugoSharedRamOperations :
    (machine .kyugo .sub).cfg.hasShr = true ∧ FromCpu (machine .kyugo .sub) ∧
    (0x7FF : Offset).toNat < (machine .kyugo .sub).cfg.shrSize ∧
    ¬(0x800 : Offset).toNat < (machine .kyugo .sub).cfg.shrSize ∧ (machine .tokio .sub).cfg.hasShr ≠ true := by decide

theorem witness_SharedWriteIsVisibleToEveryAgent :
    (∃ t, exec (.sr1Wr 0x17FF 1) (machine .bublbobl .main) = .next t) ∧
    (∃ t, exec (.sr2Wr 0xFF 1) (machine .bootleg .sub) = .next t) ∧
    (∃ t, exec (.shrWr 0x7FF 1) (machine .kyugo .main) = .next t) := ⟨⟨_, rfl⟩, ⟨_, rfl⟩, ⟨_, rfl⟩⟩

/-- The clauses of the MCU, at the highest shared address: a CPU's write before a proxied read, a proxied write. -/
theorem witness_SharedWriteIsVisibleToEveryAgent_mcu :
    (∃ s t : State, exec (.sr2Wr 0xFF 1) s = .next t ∧ HasMcu s ∧ Falls s 0x08 4 = true ∧
      (0x08 : Byte).getLsbD 3 = true ∧ loadedAddress s 0x08 &&& 0x0C00 = 0x0C00) ∧
    (∃ s t : State, exec (.mcuPbWr 0x00) s = .next t ∧ Falls s 0x00 4 = true ∧ Falls s 0x00 5 = false ∧
      (0x00 : Byte).getLsbD 3 = false ∧ loadedAddress s 0x00 &&& 0x0C00 = 0x0C00 ∧ HasSr12 s) :=
  ⟨⟨{ machine .bootleg .main with ddrB := 0x3F, portBOut := 0x18, address := 0x0FFF }, _, rfl, by decide⟩,
    { machine .bublbobl .mcu with ddrB := 0x3F, portBOut := 0x10, address := 0x0FFF }, _, rfl, by decide⟩

theorem witness_BankRegisterWrite :
    (HasBanking (machine .tokio .main) ∧ (machine .tokio .main).agent = .main ∧ OfBoard (machine .tokio .main) .tokio) ∧
    (HasBanking (machine .bootleg .main) ∧ OfBoard (machine .bootleg .main) .bootleg ∧
      (machine .bootleg .main).cfg.bankFlipMask ≠ 0) ∧
    OfBoard (machine .kyugo .main) .kyugo ∧ ¬HasBanking (machine .kyugo .main) := by decide

theorem witness_BankDecodeLaw :
    HasBanking (machine .tokio .main) ∧ (machine .tokio .main).agent = .main ∧
    (0x3FFF : Offset).toNat < (machine .tokio .main).cfg.bankSize := by decide

theorem witness_FlipScreenRegisterWrites :
    (machine .tokio .main).cfg.hasVidctrl = true ∧ OfBoard (machine .tokio .main) .tokio ∧
    (machine .kyugo .main).cfg.hasFlipReg = true ∧ (machine .kyugo .main).agent = .main ∧
    (machine .tokio .main).cfg.hasFlipReg ≠ true := by decide

theorem witness_RomWindowRead :
    HasBanking (machine .bublbobl .main) ∧ (machine .bublbobl .main).agent = .main ∧
    (0x3FFF : Offset).toNat < (machine .bublbobl .main).cfg.bankSize ∧
    ¬(0x4000 : Offset).toNat < (machine .bublbobl .main).cfg.bankSize := by decide

theorem witness_SoundCommandAndLatchRead :
    HasSndlatch (machine .kyugo .main) ∧ (machine .kyugo .main).agent = .main ∧ (machine .kyugo .sound).agent = .sound ∧
    (machine .kyugo .sub).agent ≠ .main := by decide

theorem witness_NmiDisableAndEnable :
    HasSndlatch (machine .bublbobl .sound) ∧ (machine .bublbobl .sound).agent = .sound ∧
    (machine .bublbobl .main).agent ≠ .sound := by decide

theorem witness_SecondCpuNmiTrigger :
    (machine .tokio .main).cfg.hasNmitrig = true ∧ (machine .tokio .main).agent = .main ∧
    (machine .bootleg .main).cfg.hasNmitrig ≠ true := by decide

theorem witness_NmiNeverPendingWhileEnabled :
    ∃ s t : State, ¬(s.nmiEnabled = true ∧ s.nmiPending = true) ∧ step s = .next t ∧ t.nmiEnabled = true :=
  ⟨{ machine .kyugo .main with nmiPending := true, script := [⟨.sound, 0x23000000⟩] }, _, by decide, rfl, rfl⟩

theorem witness_PortAOperations :
    HasMcu (machine .bootleg .mcu) ∧ (machine .bootleg .mcu).agent = .mcu ∧
    ¬HasMcu { machine .bootleg .mcu with cfg := Cfg.standard .bootleg false 0 } := by decide

theorem witness_PortBReadAndDirection :
    HasMcu (machine .tokio .mcu) ∧ (machine .tokio .mcu).agent = .mcu ∧ ¬HasMcu (machine .kyugo .mcu) := by decide

theorem witness_PortBWrite :
    HasMcu (machine .bublbobl .mcu) ∧ (machine .bublbobl .mcu).agent = .mcu ∧
    (machine .bublbobl .main).agent ≠ .mcu := by decide

/-- Bit 1 an input (M6), the same byte again (M15), edges that have no action (M16). -/
theorem witness_PortBWriteWithoutActingEdge :
    (HasMcu (machine .bublbobl .mcu) ∧ (machine .bublbobl .mcu).agent = .mcu) ∧
    (∀ b, ¬ActingEdge (machine .bublbobl .mcu) 0x02 b) ∧
    (∀ b, ¬ActingEdge { machine .bublbobl .mcu with ddrB := 0x3F, portBOut := 0x31 } 0x31 b) ∧
    ∀ b, ¬ActingEdge { machine .bublbobl .mcu with ddrB := 0x3F } 0x31 b := by
  refine ⟨by decide, ?_, ?_, ?_⟩ <;> rintro b (⟨-, h⟩ | ⟨-, h⟩ | ⟨-, h⟩ | ⟨-, h⟩ | ⟨-, h⟩) <;> revert h <;> decide

/-- The only acting edge is that of bit `n`, if it is the only one among the five. -/
theorem only_edge {s : State} {new : Byte} (n : Nat) (hn : n = 4 ∨ n = 5) (h0 : Falls s new 0 = false)
    (h1 : Rises s new 1 = false) (h2 : Rises s new 2 = false) (h4 : Falls s new 4 = (n == 4))
    (h5 : Falls s new 5 = (n == 5)) (b : Nat) : ActingEdge s new b ↔ b = n := by
  rcases hn with rfl | rfl <;> simp [ActingEdge, h0, h1, h2, h4, h5]

/-- One state and byte for each clause: a read with bit 11 clear (the highest such address), a read at the highest
shared address, a read and a write in the hole, a write at the highest shared address, a write below the windows. -/
theorem witness_ProxyAddressDecode :
    (HasMcu (machine .bublbobl .mcu) ∧ (machine .bublbobl .mcu).agent = .mcu) ∧
    (∀ address : BitVec 16, ∀ b,
      (ActingEdge { machine .bublbobl .mcu with ddrB := 0x3F, portBOut := 0x18, address := address } 0x08 b ↔ b = 4) ∧
      (ActingEdge { machine .bublbobl .mcu with ddrB := 0x3F, portBOut := 0x10, address := address } 0x00 b ↔ b = 4)) ∧
    ((0x08 : Byte).getLsbD 3 = true ∧ (0x00 : Byte).getLsbD 3 = false) ∧
    (0x07FF : BitVec 16).getLsbD 11 = false ∧
    ((0x0FFF : BitVec 16).getLsbD 11 = true ∧ (0x0FFF : BitVec 16).getLsbD 10 = true) ∧
    ((0x0BFF : BitVec 16).getLsbD 11 = true ∧ (0x0BFF : BitVec 16).getLsbD 10 = false) := by
  refine ⟨by decide, fun address b => ⟨?_, ?_⟩, by decide⟩ <;>
    refine only_edge 4 (by decide) ?_ ?_ ?_ ?_ ?_ b <;> simp only [Falls, Rises] <;> decide

theorem witness_InterruptActionRaisesHeldInterrupt :
    (HasMcu (machine .tokio .mcu) ∧ (machine .tokio .mcu).agent = .mcu) ∧
    ∀ b, ActingEdge { machine .tokio .mcu with ddrB := 0x3F, portBOut := 0x20 } 0x00 b ↔ b = 5 :=
  ⟨by decide, only_edge 5 (by decide) rfl rfl rfl rfl rfl⟩

theorem witness_McuInterruptTick :
    HasMcu (machine .bublbobl .sched) ∧ (machine .bublbobl .sched).agent = .sched ∧
    ¬HasMcu (machine .kyugo .sched) := by decide

theorem witness_MainInterruptAcknowledge :
    HasMcu (machine .bublbobl .main) ∧ (machine .bublbobl .main).agent = .main ∧ ¬HasMcu (machine .kyugo .main) := by
  decide

/-- The last offset of each video RAM on each variant, and the first beyond it. -/
theorem witness_VideoRamReads :
    (machine .kyugo .main).agent = .main ∧
    ((0x7FF : Offset).toNat < vramSize (machine .kyugo .main) ∧ ¬(0x800 : Offset).toNat < vramSize (machine .kyugo .main)) ∧
    ((0x3FF : Offset).toNat < vramSize (machine .tokio .main) ∧ ¬(0x400 : Offset).toNat < vramSize (machine .tokio .main)) ∧
    ((0x2FF : Offset).toNat < objSize (machine .tokio .main) ∧ ¬(0x300 : Offset).toNat < objSize (machine .tokio .main)) ∧
    (VariantK (machine .kyugo .main) ∧ (0x7FF : Offset).toNat < objSize (machine .kyugo .main)) := by decide

theorem witness_VideoRamWritesMarkTheirCell :
    (machine .tokio .main).agent = .main ∧ (0x3FF : Offset).toNat < vramSize (machine .tokio .main) ∧
    ¬(0x400 : Offset).toNat < vramSize (machine .tokio .main) := by decide

theorem witness_ObjectAndForegroundWrites :
    (VariantK (machine .kyugo .main) ∧ (machine .kyugo .main).agent = .main ∧ (0x7FF : Offset).toNat < 0x800) ∧
    (0x2FF : Offset).toNat < objSize (machine .tokio .main) ∧ ¬VariantK (machine .tokio .main) := by decide

theorem witness_ScrollRegisterWrites :
    (machine .bublbobl .main).agent = .main ∧ (machine .bublbobl .sched).agent ≠ .main := by decide

theorem witness_ColourRegisterWrites :
    VariantK (machine .kyugo .main) ∧ (machine .kyugo .main).agent = .main ∧ ¬VariantK (machine .bublbobl .main) := by decide

theorem witness_DirtyTrackingLaw :
    after (exec (.vramWr 0x7FF 0) { machine .kyugo .main with dirty := [] }) (fun t => t.dirty.contains 0x7FF) = true ∧
    (∃ t, exec (.screenRefresh false) (machine .tokio .sched) = .next t ∧ (machine .tokio .sched).videoEnabled = true) :=
  ⟨by decide, _, rfl, rfl⟩

theorem witness_ScreenRefreshChangesOnlyThePicture :
    (machine .bublbobl .sched).agent = .sched ∧ (machine .bublbobl .sched).videoEnabled = false ∧
    (machine .kyugo .sched).videoEnabled = true ∧ (machine .kyugo .main).agent ≠ .sched := by decide

theorem witness_ConstantReadNoEffectWriteAndInputs :
    ((machine .tokio .main).cfg.hasFake = true ∧ (machine .tokio .main).agent = .main) ∧
    (machine .kyugo .sound).agent = .sound ∧ ((machine .kyugo .env).agent = .env ∧ (4 : Offset).toNat ≤ 4) ∧
    ¬(5 : Offset).toNat ≤ 4 ∧ (machine .kyugo .mcu).agent ≠ .env := by decide

/-! ### Rules over every operation: for each clause, an operation that changes what it speaks of -/

theorem witness_InterruptHeldUntilAcknowledged :
    after (exec .mainIrqAck { machine .bublbobl .main with mainIrqPending := true }) (fun t => !t.mainIrqPending)
      = true ∧
    ∃ t, exec (.mcuPbWr 0) { machine .bublbobl .mcu with ddrB := 0x3F, portBOut := 0x20, sharedram2 := [(0, 1)] }
      = .next t ∧ t.mainIrqPending = true ∧ t.mainIrqVector ≠ 0 := by
  refine ⟨by decide, _, rfl, rfl, ?_⟩
  show (Memory.write [(0, 1)] 0x7C _).read 0 ≠ (0 : Byte)
  rw [Memory.read_write]
  decide

theorem witness_McuRegistersWrittenOnlyByTheirOperations :
    after (exec (.mcuPaWr 1) (machine .bublbobl .mcu)) (fun t => t.portAOut ≠ 0) = true ∧
    after (exec (.mcuDdraWr 1) (machine .bublbobl .mcu)) (fun t => t.ddrA ≠ 0) = true ∧
    after (exec (.mcuDdrbWr 1) (machine .bublbobl .mcu)) (fun t => t.ddrB ≠ 0) = true ∧
    after (exec (.mcuPbWr 2) { machine .bublbobl .mcu with ddrB := 0x3F, portBOut := 1, latch := 7, portAOut := 5 })
      (fun t => t.portAIn ≠ 0 ∧ t.portBOut ≠ 1 ∧ t.address ≠ 0) = true ∧
    after (exec (.mcuPbWr 8) { machine .bublbobl .mcu with
        ddrB := 0x3F, portBOut := 0x10, address := 0x0C00, sharedram2 := [(0, 9)] }) (fun t => t.latch ≠ 0) = true ∧
    after (exec .mcuIrqTick (machine .bublbobl .sched)) (fun t => t.mcuIrqLine ≠ false) = true := by decide

theorem witness_OtherRegistersWrittenOnlyByTheirOperations :
    after (exec (.sndcmdWr 1) (machine .kyugo .main)) (fun t => t.sndCmd ≠ 0 ∧ t.nmiPending ≠ false) = true ∧
    after (exec (.nmiEn 0) (machine .kyugo .sound)) (fun t => t.nmiEnabled ≠ false) = true ∧
    after (exec (.bankWr 0xC0) (machine .bootleg .main))
      (fun t => t.bankIndex ≠ 0 ∧ t.videoEnable ≠ false ∧ t.flipScreen ≠ false) = true ∧
    after (exec (.scrxWr 1) (machine .kyugo .main)) (fun t => t.backScrollX ≠ 0) = true ∧
    after (exec (.scryloWr 1) (machine .kyugo .main)) (fun t => t.backScrollYLo ≠ 0) = true ∧
    after (exec (.scryhiWr 1) (machine .kyugo .main)) (fun t => t.backScrollYHi ≠ 0) = true ∧
    after (exec (.palbankWr 1) (machine .kyugo .main)) (fun t => t.paletteBank ≠ 0) = true ∧
    after (exec (.frontcolWr 1) (machine .kyugo .main)) (fun t => t.frontColor ≠ 0) = true := by decide

theorem witness_MemoryCellsWrittenOnlyByTheirOperations :
    after (exec (.sr1Wr 0x17FF 1) (machine .tokio .main)) (fun t => t.sharedram1.read 0x17FF ≠ 0) = true ∧
    after (exec (.sr2Wr 0xFF 1) (machine .bootleg .sub)) (fun t => t.sharedram2.read 0xFF ≠ 0) = true ∧
    after (exec (.mcuPbWr 0) { machine .bublbobl .mcu with
        ddrB := 0x3F, portBOut := 0x10, address := 0x0FFF, portAOut := 1 })
      (fun t => t.sharedram2.read 0x3FF ≠ 0) = true ∧
    after (exec (.shrWr 0x7FF 1) (machine .kyugo .main)) (fun t => t.sharedRam.read 0x7FF ≠ 0) = true ∧
    after (exec (.vramWr 0x7FF 1) (machine .kyugo .main)) (fun t => t.vram.read 0x7FF ≠ 0) = true ∧
    after (exec (.cramWr 0x7FF 1) (machine .kyugo .main)) (fun t => t.cram.read 0x7FF ≠ 0) = true ∧
    after (exec (.objWr 0x7FF 1) (machine .kyugo .main)) (fun t => t.objram.read 0x7FF ≠ 0) = true ∧
    after (exec (.objxWr 0x7FF 1) (machine .kyugo .main)) (fun t => t.objxram.read 0x7FF ≠ 0) = true ∧
    after (exec (.fgWr 0x7FF 1) (machine .kyugo .main)) (fun t => t.fgram.read 0x7FF ≠ 0) = true ∧
    after (exec (.envInport 4 1) { machine .kyugo .env with inp := #v[0, 0, 0, 0, 0] })
      (fun t => t.inp.toList.getD 4 0 ≠ 0) = true := by decide

/-- Blanking changes a picture that shows a pixel other than the fill index. -/
theorem blankFrame_changes {s : State} (hb : s.fb.sized 256 256) (hv : s.cfg.geometry = .standard .s)
    (hp : s.fb.get 0 16 = 1) : s.blankFrame.fb ≠ s.fb := by
  intro h
  have e := Bitmap.get_paint hb (c := (Geometry.standard .s).clip) (by decide)
    (fun _ _ => (Geometry.standard .s).fillIndex) (u := 0) (by decide) 16
  rw [State.blankFrame_fb, hv] at h
  rw [h, hp, if_pos (by decide)] at e
  exact absurd e (by decide)

/-- The picture changes: a blanked frame over a pixel that is not the fill index. -/
theorem witness_picture_changes :
    ∃ s t : State, exec (.screenRefresh false) s = .next t ∧ t.fb ≠ s.fb := by
  obtain ⟨d, hd, hp⟩ : ∃ d : Bitmap, d.sized 256 256 ∧ d.get 0 16 = 1 :=
    ⟨(Bitmap.blank 256 256).put 0 16 1, Bitmap.put_sized (Bitmap.blank_sized 256 256) 0 16 1, by
      rw [Bitmap.get_put (Bitmap.blank_sized 256 256) (by decide) (by decide) 1 0 16 (by decide), if_pos ⟨rfl, rfl⟩]⟩
  refine ⟨{ machine .bublbobl .sched with fb := d }, State.blankFrame { machine .bublbobl .sched with fb := d },
    (exec_next_iff _ _ _).2 ⟨?_, ?_⟩, blankFrame_changes hd rfl hp⟩
  · show Instr.WellFormed (Cfg.standard .bublbobl true 0) .sched (.screenRefresh false) = true
    decide
  · show _ = State.screenRefresh Config.gfx false _
    unfold State.screenRefresh
    rw [if_neg]
    show ¬(decide ((0x40 : Byte) = 0) || false) = true
    decide

theorem witness_AgentsChangeOnlyWhatTheyAreWiredTo :
    (∃ t, exec (.bankWr 0xC3) (machine .bublbobl .main) = .next t) ∧
    (∃ t, exec (.sr2Wr 0x3FF 1) (machine .bublbobl .sub) = .next t) ∧
    (∃ t, exec (.nmiEn 0) (machine .bublbobl .sound) = .next t) ∧
    (∃ t, exec (.envInport 4 1) (machine .bublbobl .env) = .next t) ∧
    (∃ t, exec .mcuIrqTick (machine .bublbobl .sched) = .next t) ∧
    (∃ t, exec (.mcuPbWr 0) (machine .bublbobl .mcu) = .next t) :=
  ⟨⟨_, rfl⟩, ⟨_, rfl⟩, ⟨_, rfl⟩, ⟨_, rfl⟩, ⟨_, rfl⟩, ⟨_, rfl⟩⟩

theorem witness_EventsAreAppendedAndReadByNothing :
    ∃ t, exec (.nmitrigWr 0) { machine .tokio .main with events := [.nmiSound] } = .next t ∧
      t.events = [.nmiSound, .nmiSub] := ⟨_, rfl, rfl⟩

theorem witness_EventsHaveTheirCauses :
    after (exec (.nmiEn 0) { machine .kyugo .sound with nmiPending := true }) (fun t => t.events = [] ++ [.nmiSound])
      = true ∧
    after (exec (.nmitrigWr 0) (machine .tokio .main)) (fun t => t.events = [] ++ [.nmiSub]) = true ∧
    after (exec .mcuIrqTick (machine .tokio .sched)) (fun t => t.events = [] ++ [.irqMcu true]) = true ∧
    after (exec (.mcuPbWr 0) { machine .tokio .mcu with ddrB := 0x3F, portBOut := 0x10, address := 0x0BFF })
      (fun t => t.events = [] ++ [.diag 0x02 0x0BFF]) = true ∧
    ∃ t, exec (.mcuPbWr 0) { machine .tokio .mcu with ddrB := 0x3F, portBOut := 0x20 } = .next t ∧
      t.events = [] ++ [.irqMain t.mainIrqVector] := ⟨by decide, by decide, by decide, by decide, _, rfl, rfl⟩

theorem witness_ReadsChangeNothing :
    (IsRead (.sr1Rd 0x17FF) ∧ ∃ t, exec (.sr1Rd 0x17FF) (machine .bublbobl .sub) = .next t) ∧
    ∃ t, exec .mainIrqAck (machine .bublbobl .main) = .next t := ⟨⟨trivial, _, rfl⟩, _, rfl⟩

theorem witness_SpriteTableRanges :
    (23 < 24 ∧ 15 < 16) ∧ (VariantK (machine .kyugo .main) ∧ (machine .kyugo .main).cfg.Sound) ∧
    (machine .kyugo .main).cfg.geometry.sprXwrap = 320 := ⟨by decide, ⟨rfl, standard_sound _ _ _⟩, rfl⟩

end Sys2Proof.Tests
end

section
/-! PROOFS. The step and the configuration tables: what a step is when the next word decodes, on which boards each unit
of the per-board table exists, and so on which boards each operation exists. -/
namespace Sys2Proof.Machine

open Sys2Proof

/-- The next transaction, when its word decodes, is performed in the state that has accepted it. -/
theorem step_of_decode {s : State} {t : Transaction} {rest : List Transaction} {i : Instr}
    (hs : s.script = t :: rest) (hd : decode t.word = .ok i) : step s = exec i (s.accept t rest) := by
  simp only [step, hs, hd]

end Sys2Proof.Machine

namespace Sys2Proof

open Sys2Proof.Claims

/-! ## The boards that have each unit (00_scope R9) -/

namespace BoardParams

variable (b : Board) (fitted : Bool)

theorem hasSr12_standard_iff :
    (standard b fitted).hasSr12 = true ↔ b = .bublbobl ∨ b = .bootleg ∨ b = .tokio := by
  cases b <;> simp [standard]

theorem hasBanking_standard_iff :
    (standard b fitted).hasBanking = true ↔ b = .bublbobl ∨ b = .bootleg ∨ b = .tokio := by
  cases b <;> simp [standard]

theorem hasShr_standard_iff : (standard b fitted).hasShr = true ↔ b = .kyugo := by
  cases b <;> simp [standard]

theorem hasFlipReg_standard_iff : (standard b fitted).hasFlipReg = true ↔ b = .kyugo := by
  cases b <;> simp [standard]

theorem variant_standard_iff : (standard b fitted).variant = .k ↔ b = .kyugo := by
  cases b <;> simp [standard, Board.variant]

theorem hasVidctrl_standard_iff : (standard b fitted).hasVidctrl = true ↔ b = .tokio := by
  cases b <;> simp [standard]

theorem hasNmitrig_standard_iff : (standard b fitted).hasNmitrig = true ↔ b = .tokio := by
  cases b <;> simp [standard]

theorem hasFake_standard_iff : (standard b fitted).hasFake = true ↔ b = .tokio := by
  cases b <;> simp [standard]

/-- `BUBLBOBL` always has the MCU; on `BOOTLEG` and `TOKIO` it is the argument that decides (log 1). -/
theorem hasMcu_standard_iff :
    (standard b fitted).hasMcu = true ↔ b = .bublbobl ∨ ((b = .bootleg ∨ b = .tokio) ∧ fitted = true) := by
  cases b <;> simp [standard]

@[simp] theorem hasSndlatch_standard : (standard b fitted).hasSndlatch = true := by
  cases b <;> rfl

/-- The compositor variant of a board's row is the board's own. -/
@[simp] theorem variant_standard : (standard b fitted).variant = b.variant := by
  cases b <;> rfl

end BoardParams

/-- Every set's transparent pen is 0 by default, in both variants (45_video_compositor R211). -/
@[simp] theorem Geometry.transparentPen_standard (v : Variant) (set : GfxSet) :
    (Geometry.standard v).transparentPen set = 0 := by
  cases v <;> cases set <;> rfl

/-! ## The boards that have each operation (30_encoding R100) -/

theorem Cfg.isK_iff (c : Cfg) : c.isK = true ↔ c.variant = .k := decide_eq_true_iff

/-- An operation exists where the table of R9 gives its unit to the board. -/
theorem Instr.existsOn_iff_onBoard {b : Board} {fitted : Bool} {c : Cfg}
    (hc : c.toBoardParams = BoardParams.standard b fitted) (i : Instr) :
    i.existsOn c = true ↔ OnBoard b fitted i := by
  obtain ⟨p, board, portBIn, geometry⟩ := c
  obtain rfl : p = BoardParams.standard b fitted := hc
  cases i with
  | sr1Rd | sr1Wr | sr2Rd | sr2Wr => exact BoardParams.hasSr12_standard_iff b fitted
  | bankWr | romwinRd => exact BoardParams.hasBanking_standard_iff b fitted
  | shrRd | shrWr => exact BoardParams.hasShr_standard_iff b fitted
  | flipWr => exact BoardParams.hasFlipReg_standard_iff b fitted
  | objxRd | objxWr | fgRd | fgWr | palbankWr | frontcolWr =>
    exact (Cfg.isK_iff _).trans (BoardParams.variant_standard_iff b fitted)
  | vidctrlWr => exact BoardParams.hasVidctrl_standard_iff b fitted
  | nmitrigWr => exact BoardParams.hasNmitrig_standard_iff b fitted
  | fakeRd => exact BoardParams.hasFake_standard_iff b fitted
  | mcuPaRd | mcuPaWr | mcuDdraWr | mcuPbRd | mcuPbWr | mcuDdrbWr | mcuIrqTick | mainIrqAck =>
    exact BoardParams.hasMcu_standard_iff b fitted
  | sndcmdWr | sndlatchRd | nmiDis | nmiEn =>
    exact iff_of_true (BoardParams.hasSndlatch_standard b fitted) trivial
  | vramRd | vramWr | cramRd | cramWr | objRd | objWr | scrxWr | scryloWr | scryhiWr | screenRefresh | nopWr
  | envInport => exact iff_of_true rfl trivial

end Sys2Proof

namespace Sys2Proof.Proofs

open Sys2Proof Sys2Proof.Machine

/-- Settles O5: `State.accept` is the state the statement writes out. -/
theorem stepPerformsTheNextTransaction : Obligations.StepPerformsTheNextTransaction :=
  fun _ _ _ _ hs hd => step_of_decode hs hd

/-- Settles O9: the rows of the two tables are read off their definitions; that the operations exist where the opcode map
says follows unit by unit. -/
theorem boardTable : Obligations.BoardTable := by
  intro fitted
  refine ⟨?bublbobl, ?bootleg, ?tokio, ?kyugo, ?operations, ?geometryK, ?geometryS, ?standardCfg⟩
  case bublbobl | bootleg | tokio | kyugo => simp [BoardParams.standard, Board.variant]
  case operations => exact fun _ _ i hc => i.existsOn_iff_onBoard hc
  case geometryK | geometryS =>
    simp only [Geometry.transparentPen_standard]
    simp [Geometry.standard, Geometry.vramSize, Geometry.tmpW, Geometry.tmpH, Geometry.edge]
  case standardCfg =>
    intro b p
    simp [Cfg.standard]

end Sys2Proof.Proofs
end

section
/-! PROOFS. What an operation changes, said once: every effect as one record update of the state before it, and the rules
of the shared operations that the whole-machine invariants use. -/
namespace Sys2Proof.Machine

open Sys2Proof

/-! ## Every effect as one record update -/

/-- Every cell marked if there is a change, as one record update (R197). -/
def State.markAllIf (s : State) (change : Prop) [Decidable change] : State :=
  { s with
    dirty := if change then List.range s.cfg.geometry.vramSize else s.dirty
    repaint := if change then s.repaintOnMark else s.repaint }

theorem State.markAllIf_eq (s : State) (change : Prop) [Decidable change] :
    s.markAllIf change = if change then s.markAllDirty else s := by
  unfold State.markAllIf
  split <;> rfl

theorem State.setFlip_eq_markAllIf (s : State) (b : Bool) :
    s.setFlip b = { s.markAllIf (b ≠ s.flipScreen) with flipScreen := b } :=
  s.setFlip_eq b

/-- The flip flag a `BANK_WR` leaves: its bit where the board has one (41_bank_switch R131). -/
def State.bankFlipValue (s : State) (v : Byte) : Bool :=
  if s.cfg.bankFlipMask = 0 then s.flipScreen else v &&& s.cfg.bankFlipMask ≠ 0

theorem State.setFlip_self (s : State) : s.setFlip s.flipScreen = s := by
  simp [State.setFlip_eq]

theorem State.bankFlip_eq_setFlip (s : State) (v : Byte) : s.bankFlip v = s.setFlip (s.bankFlipValue v) := by
  rw [State.bankFlip_eq, State.bankFlipValue]
  split
  · rw [State.setFlip_self]
  · rfl

/-- The effect with its conditions moved into the fields: a field that an operation does not name is the old one by
definition. -/
def effectUpdate (i : Instr) (s : State) : State :=
  match i with
  | .bankWr v =>
    { s.markAllIf (s.bankFlipValue v ≠ s.flipScreen) with
      bankIndex := decodedBank s.cfg v
      videoEnable := if s.cfg.veMask ≠ 0 then decide (v &&& s.cfg.veMask ≠ 0) else s.videoEnable
      flipScreen := s.bankFlipValue v }
  | .vidctrlWr v =>
    { s.markAllIf (decide (v &&& s.cfg.vidctrlFlipMask ≠ 0) ≠ s.flipScreen) with
      flipScreen := v &&& s.cfg.vidctrlFlipMask ≠ 0 }
  | .flipWr v => { s.markAllIf (v.getLsbD 0 ≠ s.flipScreen) with flipScreen := v.getLsbD 0 }
  | .palbankWr v => { s.markAllIf (v.setWidth 1 ≠ s.paletteBank) with paletteBank := v.setWidth 1 }
  | .sndcmdWr v =>
    { s with
      sndCmd := v
      nmiPending := !s.nmiEnabled || s.nmiPending
      events := if s.nmiEnabled then s.events ++ [.nmiSound] else s.events }
  | .nmiEn _ =>
    { s with
      nmiEnabled := true
      nmiPending := false
      events := if s.nmiPending then s.events ++ [.nmiSound] else s.events }
  | .mcuPbWr v =>
    let u := s.edgeActions (detectEdges s.portBOut v s.ddrB) (v.getLsbD 3)
    { s with
      portAIn := u.portAIn
      address := u.address
      latch := u.latch
      sharedram2 := u.sharedram2
      mainIrqVector := u.mainIrqVector
      mainIrqPending := u.mainIrqPending
      events := u.events
      draws := u.draws
      portBOut := v }
  | .screenRefresh full =>
    let u := s.screenRefresh Config.gfx full
    { s with tmp := u.tmp, fb := u.fb, dirty := u.dirty, repaint := u.repaint }
  | _ => effect i s

theorem effect_eq_effectUpdate (i : Instr) (s : State) : effect i s = effectUpdate i s := by
  cases i with
  | bankWr v =>
    simp only [effect, State.bankVideo_eq, State.bankFlip_eq_setFlip, State.setFlip_eq_markAllIf]
    rfl
  | vidctrlWr v => exact s.setFlip_eq_markAllIf _
  | flipWr v => exact s.setFlip_eq_markAllIf _
  | palbankWr v => simp only [effect, effectUpdate, State.markAllIf_eq]
  | sndcmdWr v => exact State.nmiAssert_eq { s with sndCmd := v }
  | nmiEn d =>
    simp only [effect, effectUpdate]
    cases s.nmiPending <;> rfl
  | mcuPbWr v =>
    simp only [effect]
    rw [State.edgeActions_frame]
    rfl
  | screenRefresh full => exact s.screenRefresh_frame Config.gfx full
  | _ => rfl

/-- No operation writes the configuration (00_scope R8). -/
@[simp] theorem effect_cfg (i : Instr) (s : State) : (effect i s).cfg = s.cfg := by
  rw [effect_eq_effectUpdate]
  cases i <;> rfl

/-- No operation writes the palette (10_state R44). -/
@[simp] theorem effect_palette (i : Instr) (s : State) : (effect i s).palette = s.palette := by
  rw [effect_eq_effectUpdate]
  cases i <;> rfl

/-! ## What an admitted transaction meets -/

theorem wellFormed_existsOn {c : Cfg} {a : Agent} {i : Instr} (h : i.WellFormed c a = true) : i.existsOn c = true := by
  simp only [Instr.WellFormed, Bool.and_eq_true] at h
  obtain ⟨⟨hon, -⟩, -⟩ := h
  exact hon

theorem wellFormed_inRange {c : Cfg} {a : Agent} {i : Instr} (h : i.WellFormed c a = true) : i.inRange c = true := by
  simp only [Instr.WellFormed, Bool.and_eq_true] at h
  obtain ⟨-, hin⟩ := h
  exact hin

/-! ## The edge actions of a Port B write -/

theorem State.onEdge_keeps {P : State → Prop} {action : State → State} (ha : ∀ s, P s → P (action s)) {s : State}
    (h : P s) (edge : Bool) : P (s.onEdge edge action) := by
  cases edge with
  | false => exact h
  | true => exact ha s h

/-- What every edge action keeps, a Port B write's actions keep (43_protection_mcu R161). -/
theorem State.edgeActions_keeps {P : State → Prop} (deliver : ∀ s, P s → P s.deliver)
    (addrLow : ∀ s, P s → P s.loadAddrLow) (addrHigh : ∀ s, P s → P s.loadAddrHigh)
    (access : ∀ dir s, P s → P (s.proxyAccess dir)) (irq : ∀ s, P s → P s.raiseMainIrq) {s : State} (h : P s)
    (e : EdgeSet) (dir : Bool) : P (s.edgeActions e dir) :=
  onEdge_keeps irq (onEdge_keeps (access dir) (onEdge_keeps addrHigh (onEdge_keeps addrLow (onEdge_keeps deliver h _)
    _) _) _) _

/-- A proxied access does nothing to `sharedram2`, or writes a byte that the proxy can address (R166). -/
theorem State.proxyAccess_sharedram2 {P : Memory 8 → Prop} (hw : ∀ m a v, a < 0x400 → P m → P (m.write a v))
    {s : State} (h : P s.sharedram2) (dir : Bool) : P (s.proxyAccess dir).sharedram2 := by
  cases dir with
  | true =>
    show P s.proxyRead.sharedram2
    rw [State.proxyRead_eq]
    exact h
  | false =>
    show P s.proxyWrite.sharedram2
    rw [State.proxyWrite_eq]
    dsimp only
    split
    · exact hw _ _ _ (proxyOffset_lt _) h
    · exact h

/-- What writes below 0x400 keep of `sharedram2`, the edge actions keep (R166, R168). -/
theorem State.edgeActions_sharedram2 {P : Memory 8 → Prop} (hw : ∀ m a v, a < 0x400 → P m → P (m.write a v))
    {s : State} (h : P s.sharedram2) (e : EdgeSet) (dir : Bool) : P (s.edgeActions e dir).sharedram2 :=
  edgeActions_keeps (P := fun s => P s.sharedram2) (fun _ h => h) (fun _ h => h) (fun _ h => h)
    (fun dir _ h => proxyAccess_sharedram2 hw h dir)
    (fun s h => by rw [State.raiseMainIrq_eq]; exact hw _ _ _ (by decide) h) h e dir

theorem State.proxyAccess_portAIn (s : State) (dir : Bool) : (s.proxyAccess dir).portAIn = s.portAIn := by
  rw [State.proxyAccess_frame]

theorem State.proxyAccess_address (s : State) (dir : Bool) : (s.proxyAccess dir).address = s.address := by
  rw [State.proxyAccess_frame]

/-- Only a read brings a byte into `latch` (R166). -/
theorem State.proxyWrite_latch (s : State) : s.proxyWrite.latch = s.latch := by
  rw [State.proxyWrite_eq]

/-- The access and the interrupt leave the delivered byte and the address alone. -/
theorem State.onEdge_access_irq (s : State) (access irq dir : Bool) :
    let t := (s.onEdge access (State.proxyAccess · dir)).onEdge irq State.raiseMainIrq
    t.portAIn = s.portAIn ∧ t.address = s.address := by
  cases access <;> cases irq <;>
    simp [State.raiseMainIrq_eq, State.proxyAccess_portAIn, State.proxyAccess_address]

/-- A Port B write delivers `latch` on the first edge (R162). -/
theorem State.edgeActions_portAIn (s : State) (e : EdgeSet) (dir : Bool) :
    (s.edgeActions e dir).portAIn = if e.deliver then s.latch else s.portAIn := by
  simp only [State.edgeActions, State.onEdge_loads_eq]
  exact (State.onEdge_access_irq _ _ _ _).1

/-- `address` keeps its value unless a half of it is loaded (R163, R164). -/
theorem State.edgeActions_address {s : State} {e : EdgeSet} {dir : Bool} (hlow : ¬e.addrLow = true)
    (hhigh : ¬e.addrHigh = true) : (s.edgeActions e dir).address = s.address := by
  simp only [State.edgeActions, State.onEdge_loads_eq]
  exact (State.onEdge_access_irq _ _ _ _).2.trans ((if_neg hhigh).trans (if_neg hlow))

/-- `latch` keeps its value unless a proxied read happens. -/
theorem State.edgeActions_latch {s : State} {e : EdgeSet} {dir : Bool} (h : ¬(e.access = true ∧ dir = true)) :
    (s.edgeActions e dir).latch = s.latch := by
  simp only [State.edgeActions, State.onEdge_loads_eq]
  refine onEdge_keeps (P := fun t => t.latch = s.latch) (fun t h => by rw [State.raiseMainIrq_eq]; exact h) ?_ _
  cases ha : e.access with
  | false => rfl
  | true =>
    cases dir with
    | false => exact State.proxyWrite_latch _
    | true => exact absurd ⟨ha, rfl⟩ h

end Sys2Proof.Machine
end

section
/-! PROOFS. The registers: who writes each, and the sound latch's invariant (10_state R21 to R41, R33). -/
namespace Sys2Proof.Proofs

open Sys2Proof Sys2Proof.Machine Sys2Proof.Claims

/-! ## What each change by a Port B write needs (43_protection_mcu R160 to R166) -/

theorem mcuPbWr_portAIn_changes {s : State} {v : Byte}
    (h : (effectUpdate (.mcuPbWr v) s).portAIn ≠ s.portAIn) : Falls s v 0 = true := by
  by_contra hf
  exact h ((State.edgeActions_portAIn s _ _).trans (if_neg hf))

theorem mcuPbWr_address_changes {s : State} {v : Byte}
    (h : (effectUpdate (.mcuPbWr v) s).address ≠ s.address) : Rises s v 1 = true ∨ Rises s v 2 = true := by
  by_contra hr
  obtain ⟨hlow, hhigh⟩ := not_or.1 hr
  exact h (State.edgeActions_address hlow hhigh)

theorem mcuPbWr_latch_changes {s : State} {v : Byte}
    (h : (effectUpdate (.mcuPbWr v) s).latch ≠ s.latch) : Falls s v 4 = true ∧ v.getLsbD 3 = true := by
  by_contra hf
  exact h (State.edgeActions_latch hf)

/-- Settles O34: register by register, every operation but the writers leaves the register as it was by definition of its
record update. -/
theorem mcuRegistersWrittenOnlyByTheirOperations : Obligations.McuRegistersWrittenOnlyByTheirOperations := by
  intro i s t h
  obtain ⟨-, rfl⟩ := (exec_next_iff i s t).1 h
  rw [effect_eq_effectUpdate]
  refine ⟨?portAOut, ?portAIn, ?ddrA, ?portBOut, ?ddrB, ?address, ?latch, ?mcuIrqLine⟩
  case portAOut =>
    cases i with
    | mcuPaWr v => exact fun _ => ⟨v, rfl⟩
    | _ => exact absurd rfl
  case portAIn =>
    cases i with
    | mcuPbWr v => exact fun h => ⟨v, rfl, mcuPbWr_portAIn_changes h⟩
    | _ => exact absurd rfl
  case ddrA =>
    cases i with
    | mcuDdraWr v => exact fun _ => ⟨v, rfl⟩
    | _ => exact absurd rfl
  case portBOut =>
    cases i with
    | mcuPbWr v => exact fun _ => ⟨v, rfl⟩
    | _ => exact absurd rfl
  case ddrB =>
    cases i with
    | mcuDdrbWr v => exact fun _ => ⟨v, rfl⟩
    | _ => exact absurd rfl
  case address =>
    cases i with
    | mcuPbWr v => exact fun h => ⟨v, rfl, mcuPbWr_address_changes h⟩
    | _ => exact absurd rfl
  case latch =>
    cases i with
    | mcuPbWr v => exact fun h => ⟨v, rfl, mcuPbWr_latch_changes h⟩
    | _ => exact absurd rfl
  case mcuIrqLine =>
    cases i with
    | mcuIrqTick => exact fun _ => rfl
    | _ => exact absurd rfl

/-- The one condition in `BANK_WR` that decides whether `video_enable` is written (41_bank_switch R131). -/
theorem bankWr_videoEnable_changes {s : State} {v : Byte}
    (h : (effectUpdate (.bankWr v) s).videoEnable ≠ s.videoEnable) : s.cfg.veMask ≠ 0 := by
  intro hm
  exact h (if_neg (not_not_intro hm))

/-- Settles O35: register by register, as O34. -/
theorem otherRegistersWrittenOnlyByTheirOperations : Obligations.OtherRegistersWrittenOnlyByTheirOperations := by
  intro i s t h
  obtain ⟨-, rfl⟩ := (exec_next_iff i s t).1 h
  refine ⟨?sndCmd, ?nmiEnabled, ?nmiPending, ?bankIndex, ?videoEnable, ?flipScreen, ?backScrollX, ?backScrollYLo,
    ?backScrollYHi, ?paletteBank, ?frontColor, effect_cfg i s, effect_palette i s⟩ <;>
    rw [effect_eq_effectUpdate]
  case sndCmd =>
    cases i with
    | sndcmdWr v => exact fun _ => ⟨v, rfl⟩
    | _ => exact absurd rfl
  case nmiEnabled =>
    cases i with
    | nmiEn d => exact fun _ => ⟨d, .inl rfl⟩
    | nmiDis d => exact fun _ => ⟨d, .inr rfl⟩
    | _ => exact absurd rfl
  case nmiPending =>
    cases i with
    | sndcmdWr v => exact fun _ => ⟨v, .inl rfl⟩
    | nmiEn d => exact fun _ => ⟨d, .inr rfl⟩
    | _ => exact absurd rfl
  case bankIndex =>
    cases i with
    | bankWr v => exact fun _ => ⟨v, rfl⟩
    | _ => exact absurd rfl
  case videoEnable =>
    cases i with
    | bankWr v => exact fun h => ⟨bankWr_videoEnable_changes h, v, rfl⟩
    | _ => exact absurd rfl
  case flipScreen =>
    cases i with
    | bankWr v => exact fun _ => ⟨v, .inl rfl⟩
    | vidctrlWr v => exact fun _ => ⟨v, .inr (.inl rfl)⟩
    | flipWr v => exact fun _ => ⟨v, .inr (.inr rfl)⟩
    | _ => exact absurd rfl
  case backScrollX =>
    cases i with
    | scrxWr v => exact fun _ => ⟨v, rfl⟩
    | _ => exact absurd rfl
  case backScrollYLo =>
    cases i with
    | scryloWr v => exact fun _ => ⟨v, rfl⟩
    | _ => exact absurd rfl
  case backScrollYHi =>
    cases i with
    | scryhiWr v => exact fun _ => ⟨v, rfl⟩
    | _ => exact absurd rfl
  case paletteBank =>
    cases i with
    | palbankWr v => exact fun _ => ⟨v, rfl⟩
    | _ => exact absurd rfl
  case frontColor =>
    cases i with
    | frontcolWr v => exact fun _ => ⟨v, rfl⟩
    | _ => exact absurd rfl

end Sys2Proof.Proofs

namespace Sys2Proof.Machine

open Sys2Proof

/-- What an operation does to the two NMI flags keeps them from being both true: an event while enabled is not held, and
enabling clears what was held (42_sound_latch R142, R145, R147). -/
theorem effect_latchSound {s : State} (h : s.LatchSound) (i : Instr) : (effect i s).LatchSound := by
  rw [effect_eq_effectUpdate]
  cases i with
  | sndcmdWr v =>
    rintro ⟨hen : s.nmiEnabled = true, hpend : (!s.nmiEnabled || s.nmiPending) = true⟩
    exact h ⟨hen, by simpa [hen] using hpend⟩
  | nmiEn d =>
    rintro ⟨-, hpend : false = true⟩
    cases hpend
  | nmiDis d =>
    rintro ⟨hen : false = true, -⟩
    cases hen
  | _ => exact h

end Sys2Proof.Machine

namespace Sys2Proof.Proofs

open Sys2Proof Sys2Proof.Machine

/-- Settles O24: reset clears both flags, and a step stands still or performs an effect. -/
theorem nmiNeverPendingWhileEnabled : Obligations.NmiNeverPendingWhileEnabled := by
  refine ⟨fun c h => absurd h.1 Bool.false_ne_true, fun s t h hst => ?_⟩
  obtain ⟨-, rfl⟩ | ⟨tr, rest, i, -, -, -, rfl⟩ := step_next_cases hst
  · exact h
  · exact effect_latchSound (s := s.accept tr rest) h i

end Sys2Proof.Proofs
end

section
/-! PROOFS. The event trace: an operation appends the same events whatever the trace holds (10_state R47). -/
namespace Sys2Proof.Machine

open Sys2Proof

/-- The state with another trace. -/
def State.withEvents (s : State) (es : List Event) : State := { s with events := es }

/-- What R47 says of an operation performed in `s`: it appends some events, and with any other trace it appends the same
and does all else the same. -/
def AppendsUnread (f : State → State) (s : State) : Prop :=
  ∃ new, (f s).events = s.events ++ new ∧ ∀ es, f (s.withEvents es) = (f s).withEvents (es ++ new)

variable {f h : State → State} {s : State}

/-- An operation that commutes with replacing the trace appends nothing. -/
theorem AppendsUnread.of_commutes (hf : ∀ es, f (s.withEvents es) = (f s).withEvents es) : AppendsUnread f s := by
  have hsame : f s = (f s).withEvents s.events := hf s.events
  have hkept : (f s).events = s.events := (congrArg State.events hsame :)
  exact ⟨[], by rw [hkept, List.append_nil], fun es => by rw [List.append_nil]; exact hf es⟩

theorem AppendsUnread.emit (e : Event) : AppendsUnread (fun t => t.emit e) s :=
  ⟨[e], rfl, fun _ => rfl⟩

theorem AppendsUnread.comp (hf : AppendsUnread f s) (hh : AppendsUnread h (f s)) :
    AppendsUnread (fun t => h (f t)) s := by
  obtain ⟨first, hfe, hfs⟩ := hf
  obtain ⟨second, hhe, hhs⟩ := hh
  refine ⟨first ++ second, ?_, fun es => ?_⟩
  · rw [hhe, hfe, List.append_assoc]
  · show h (f (s.withEvents es)) = (h (f s)).withEvents _
    rw [hfs, hhs, List.append_assoc]

/-- A condition that does not see the trace. -/
theorem AppendsUnread.ite {c : State → Bool} (hc : ∀ es, c (s.withEvents es) = c s) (hf : AppendsUnread f s)
    (hh : AppendsUnread h s) : AppendsUnread (fun t => if c t then f t else h t) s := by
  simp only [AppendsUnread, hc]
  cases c s with
  | true => exact hf
  | false => exact hh

theorem AppendsUnread.onEdge (hf : AppendsUnread f s) (edge : Bool) :
    AppendsUnread (fun t => t.onEdge edge f) s :=
  .ite (c := fun _ => edge) (fun _ => rfl) hf (.of_commutes (f := id) fun _ => rfl)

/-! ## The actions of a Port B write -/

theorem State.proxyAccess_appendsUnread (s : State) (dir : Bool) :
    AppendsUnread (fun t => t.proxyAccess dir) s := by
  cases dir with
  | true =>
    exact .ite (c := fun t => inInputWindow t.address) (fun _ => rfl) (.of_commutes fun _ => rfl)
      (.ite (c := fun t => inSharedWindow t.address) (fun _ => rfl) (.of_commutes fun _ => rfl)
        ⟨[.diag diagUnmappedRead s.address], rfl, fun _ => rfl⟩)
  | false =>
    exact .ite (c := fun t => inSharedWindow t.address) (fun _ => rfl) (.of_commutes fun _ => rfl)
      ⟨[.diag diagUnmappedWrite s.address], rfl, fun _ => rfl⟩

theorem State.raiseMainIrq_appendsUnread (s : State) : AppendsUnread State.raiseMainIrq s :=
  ⟨[.irqMain ((s.sharedram2.write 0x7C s.nextDraw).read 0)], rfl, fun _ => rfl⟩

theorem State.edgeActions_appendsUnread (s : State) (e : EdgeSet) (dir : Bool) :
    AppendsUnread (fun t => t.edgeActions e dir) s :=
  have deliver := (AppendsUnread.of_commutes (f := State.deliver) (s := s) fun _ => rfl).onEdge e.deliver
  have low := (AppendsUnread.of_commutes (f := State.loadAddrLow) fun _ => rfl).onEdge e.addrLow
  have high := (AppendsUnread.of_commutes (f := State.loadAddrHigh) fun _ => rfl).onEdge e.addrHigh
  have access := (State.proxyAccess_appendsUnread _ dir).onEdge e.access
  have irq := (State.raiseMainIrq_appendsUnread _).onEdge e.irq
  (((deliver.comp low).comp high).comp access).comp irq

/-! ## Every operation -/

theorem State.screenRefresh_appendsUnread (g : Gfx) (full : Bool) (s : State) :
    AppendsUnread (State.screenRefresh g full) s :=
  .ite (c := State.videoEnabled) (fun _ => rfl) (.of_commutes fun _ => by cases full <;> rfl)
    (.of_commutes fun _ => rfl)

/-- Every effect appends its events without reading the trace (10_state R47). -/
theorem effect_appendsUnread (i : Instr) (s : State) : AppendsUnread (effect i) s := by
  cases i with
  | sndcmdWr v =>
    exact .ite (c := State.nmiEnabled) (fun _ => rfl) ⟨[.nmiSound], rfl, fun _ => rfl⟩ (.of_commutes fun _ => rfl)
  | nmiEn d =>
    exact .ite (c := State.nmiPending) (fun _ => rfl) ⟨[.nmiSound], rfl, fun _ => rfl⟩ (.of_commutes fun _ => rfl)
  | nmitrigWr d => exact .emit .nmiSub
  | mcuIrqTick => exact ⟨[.irqMcu !s.mcuIrqLine], rfl, fun _ => rfl⟩
  | mcuPbWr v =>
    exact (s.edgeActions_appendsUnread (detectEdges s.portBOut v s.ddrB) (v.getLsbD 3)).comp
      (.of_commutes (f := fun t => { t with portBOut := v }) fun _ => rfl)
  | screenRefresh full => exact s.screenRefresh_appendsUnread Config.gfx full
  | bankWr | vidctrlWr | flipWr | palbankWr =>
    exact .of_commutes fun es => by rw [effect_eq_effectUpdate, effect_eq_effectUpdate]; rfl
  | _ => exact .of_commutes fun _ => rfl

end Sys2Proof.Machine

namespace Sys2Proof.Proofs

open Sys2Proof Sys2Proof.Machine

/-- Settles O38: the check of a transaction does not see the trace, and the effect appends to it unread. -/
theorem eventsAreAppendedAndReadByNothing : Obligations.EventsAreAppendedAndReadByNothing := by
  refine ⟨fun _ => rfl, fun i s t h => ?_⟩
  obtain ⟨hw, rfl⟩ := (exec_next_iff i s t).1 h
  obtain ⟨new, he, hrun⟩ := effect_appendsUnread i s
  exact ⟨new, he, fun es => (exec_next_iff i (s.withEvents es) _).2 ⟨hw, (hrun es).symm⟩⟩

end Sys2Proof.Proofs
end

section
/-! PROOFS. The invariant of the machine, part by part: what each effect does to the memories, `address`, the marks and the
bitmaps. -/
namespace Sys2Proof.Cfg.Sound

variable {c : Cfg}

theorem tmpClip_inside (hc : c.Sound) : c.geometry.tmpClip.inside c.geometry.tmpW c.geometry.tmpH :=
  ⟨Nat.sub_one_lt_of_lt hc.tmpW, Nat.sub_one_lt_of_lt hc.tmpH⟩

theorem clip_inside (hc : c.Sound) : c.geometry.clip.inside c.geometry.fbW c.geometry.fbH :=
  ⟨hc.clipX, hc.clipY⟩

theorem fbW_pos (hc : c.Sound) : 0 < c.geometry.fbW := (Nat.zero_le _).trans_lt hc.clipX

end Sys2Proof.Cfg.Sound

namespace Sys2Proof.Machine

open Sys2Proof

variable {s : State}

/-! ## The memories -/

/-- Every effect leaves the memories canonical: each space is as it was or written at one offset (20_memory R60). -/
theorem effect_memoriesCanonical (h : s.MemoriesCanonical) (i : Instr) : (effect i s).MemoriesCanonical := by
  rw [effect_eq_effectUpdate]
  cases i with
  | sr1Wr off v => exact { h with sharedram1 := Memory.wf_write h.sharedram1 off.toNat v }
  | sr2Wr off v => exact { h with sharedram2 := Memory.wf_write h.sharedram2 off.toNat v }
  | shrWr off v => exact { h with sharedRam := Memory.wf_write h.sharedRam off.toNat v }
  | vramWr off v => exact { h with vram := Memory.wf_write h.vram off.toNat v }
  | cramWr off v => exact { h with cram := Memory.wf_write h.cram off.toNat v }
  | objWr off v => exact { h with objram := Memory.wf_write h.objram off.toNat v }
  | objxWr off v => exact { h with objxram := Memory.wf_write h.objxram off.toNat (v.setWidth 4) }
  | fgWr off v => exact { h with fgram := Memory.wf_write h.fgram off.toNat v }
  | mcuPbWr v =>
    exact { h with
      sharedram2 := State.edgeActions_sharedram2 (P := Memory.wf) (fun _ a b _ hm => Memory.wf_write hm a b)
        h.sharedram2 _ _ }
  | _ => exact { h with }

/-- An admitted effect writes no cell beyond its space: the range check holds the CPUs inside, and the proxy reaches the
first 0x400 bytes of a `sharedram2` that has them (20_memory R60, R68, R71). -/
theorem effect_memoriesWithin (hc : s.cfg.Sound) (h : s.MemoriesWithin) {a : Agent} {i : Instr}
    (hw : i.WellFormed s.cfg a = true) : (effect i s).MemoriesWithin := by
  have hon := wellFormed_existsOn hw
  have hin := wellFormed_inRange hw
  rw [effect_eq_effectUpdate]
  cases i with
  | sr1Wr off v => exact { h with sharedram1 := Memory.within_write h.sharedram1 (of_decide_eq_true hin) v }
  | sr2Wr off v =>
    have hwin : off.toNat < s.cfg.sr2CpuWindow := of_decide_eq_true hin
    exact { h with sharedram2 := Memory.within_write h.sharedram2 (hwin.trans_le (hc.window hon)) v }
  | shrWr off v => exact { h with sharedRam := Memory.within_write h.sharedRam (of_decide_eq_true hin) v }
  | vramWr off v => exact { h with vram := Memory.within_write h.vram (of_decide_eq_true hin) v }
  | cramWr off v => exact { h with cram := Memory.within_write h.cram (of_decide_eq_true hin) v }
  | objWr off v => exact { h with objram := Memory.within_write h.objram (of_decide_eq_true hin) v }
  | objxWr off v => exact { h with objxram := Memory.within_write h.objxram (of_decide_eq_true hin) (v.setWidth 4) }
  | fgWr off v => exact { h with fgram := Memory.within_write h.fgram (of_decide_eq_true hin) v }
  | mcuPbWr v =>
    obtain ⟨-, hsize⟩ := hc.proxy hon
    exact { h with
      sharedram2 := State.edgeActions_sharedram2 (P := fun m => m.within s.cfg.sr2Size)
        (fun _ _ b ha hm => Memory.within_write hm (ha.trans_le hsize) b) h.sharedram2 _ _ }
  | _ => exact { h with }

/-! ## `address` -/

theorem loadAddrLow_addressTwelveBits (h : s.AddressTwelveBits) : s.loadAddrLow.AddressTwelveBits := by
  show ((s.address &&& 0xFF00) ||| s.portAOut.setWidth 16).toNat < 2 ^ 12
  rw [BitVec.toNat_or]
  refine Nat.or_lt_two_pow ?_ ?_
  · rw [BitVec.toNat_and]
    exact Nat.and_le_left.trans_lt h
  · have hlt := s.portAOut.isLt
    rw [BitVec.toNat_setWidth]
    omega

theorem loadAddrHigh_addressTwelveBits (h : s.AddressTwelveBits) : s.loadAddrHigh.AddressTwelveBits := by
  show ((s.address &&& 0x00FF) ||| ((s.portAOut &&& 0x0F).setWidth 16 <<< 8)).toNat < 2 ^ 12
  rw [BitVec.toNat_or]
  refine Nat.or_lt_two_pow ?_ ?_
  · rw [BitVec.toNat_and]
    exact Nat.and_le_left.trans_lt h
  · have hnibble : (s.portAOut &&& 0x0F).toNat ≤ 0x0F := by
      rw [BitVec.toNat_and]
      exact Nat.and_le_right
    rw [BitVec.toNat_shiftLeft, BitVec.toNat_setWidth, Nat.shiftLeft_eq]
    omega

/-- `address` is written by the two loads of a Port B write alone, and both keep it below 0x1000 (R163, R164). -/
theorem effect_addressTwelveBits (h : s.AddressTwelveBits) (i : Instr) : (effect i s).AddressTwelveBits := by
  rw [effect_eq_effectUpdate]
  cases i with
  | mcuPbWr v =>
    exact State.edgeActions_keeps (P := State.AddressTwelveBits) (fun _ h => h)
      (fun _ => loadAddrLow_addressTwelveBits) (fun _ => loadAddrHigh_addressTwelveBits)
      (fun dir t h => by rwa [State.AddressTwelveBits, State.proxyAccess_address])
      (fun t h => by rw [State.raiseMainIrq_eq]; exact h) h _ _
  | _ => exact h

/-! ## The marks -/

theorem State.DirtySound.markCell (h : s.DirtySound) {n : Nat} (hn : n < s.cfg.geometry.vramSize) :
    (s.markCell n).DirtySound where
  ascending := markIn_ascending h.ascending
  cells m hm := by
    obtain rfl | hm := mem_markIn.1 hm
    · exact hn
    · exact h.cells m hm
  repaint hv _ := by
    have hv : s.cfg.variant = .s := hv
    simp [State.repaintOnMark, hv]

theorem State.markAllDirty_dirtySound (s : State) : s.markAllDirty.DirtySound where
  ascending := List.pairwise_lt_range
  cells _ hm := List.mem_range.1 hm
  repaint hv _ := by
    have hv : s.cfg.variant = .s := hv
    simp [State.repaintOnMark, hv]

/-- Marking every cell on a change, and none without one, keeps the marks sound. -/
theorem State.DirtySound.markAllIf (h : s.DirtySound) (change : Prop) [Decidable change] :
    (s.markAllIf change).DirtySound := by
  rw [State.markAllIf_eq]
  split
  · exact s.markAllDirty_dirtySound
  · exact h

theorem State.drawFrame_dirtySound (s : State) (g : Gfx) : (s.drawFrame g).DirtySound where
  ascending := List.Pairwise.nil
  cells _ hm := absurd hm List.not_mem_nil
  repaint _ hne := absurd rfl hne

/-- A refresh draws a frame, after marking every cell if it is full, or blanks the picture (45_video_compositor R218). -/
theorem State.screenRefresh_keeps {P : State → Prop} {g : Gfx} (mark : P s → P s.markAllDirty)
    (draw : ∀ s, P s → P (s.drawFrame g)) (blank : P s → P s.blankFrame) (h : P s) (full : Bool) :
    P (s.screenRefresh g full) := by
  unfold State.screenRefresh
  split
  · cases full with
    | false => exact draw s h
    | true => exact draw _ (mark h)
  · exact blank h

/-- Every admitted effect keeps the marks sound (10_state R43, 45_video_compositor R221). -/
theorem effect_dirtySound (h : s.DirtySound) {a : Agent} {i : Instr} (hw : i.WellFormed s.cfg a = true) :
    (effect i s).DirtySound := by
  have hin := wellFormed_inRange hw
  cases i with
  | vramWr off v | cramWr off v => exact { h.markCell (of_decide_eq_true hin) with }
  | palbankWr v =>
    rw [effect_eq_effectUpdate]
    exact { h.markAllIf (v.setWidth 1 ≠ s.paletteBank) with }
  | bankWr v =>
    rw [effect_eq_effectUpdate]
    exact { h.markAllIf (s.bankFlipValue v ≠ s.flipScreen) with }
  | vidctrlWr v =>
    rw [effect_eq_effectUpdate]
    exact { h.markAllIf (decide (v &&& s.cfg.vidctrlFlipMask ≠ 0) ≠ s.flipScreen) with }
  | flipWr v =>
    rw [effect_eq_effectUpdate]
    exact { h.markAllIf (v.getLsbD 0 ≠ s.flipScreen) with }
  | screenRefresh full =>
    exact State.screenRefresh_keeps (fun _ => s.markAllDirty_dirtySound) (fun t _ => t.drawFrame_dirtySound _)
      (fun h => { h with }) h full
  | _ =>
    rw [effect_eq_effectUpdate]
    exact { h with }

/-! ## The bitmaps -/

theorem State.drawFrame_bitmapsSized (hc : s.cfg.Sound) (h : s.BitmapsSized) (g : Gfx) :
    (s.drawFrame g).BitmapsSized where
  tmp := blitAll_sized _ g .none _ h.tmp hc.tmpClip_inside hc.tmpW
  fb := blitAll_sized _ g .pen _ (Bitmap.paint_sized h.fb hc.clip_inside hc.fbW_pos _) hc.clip_inside hc.fbW_pos

theorem State.blankFrame_bitmapsSized (hc : s.cfg.Sound) (h : s.BitmapsSized) : s.blankFrame.BitmapsSized where
  tmp := h.tmp
  fb := Bitmap.paint_sized h.fb hc.clip_inside hc.fbW_pos _

/-- A drawn frame is made of `CLUT` indices and of pixels of `tmp` (45_video_compositor R214, R217). -/
theorem State.drawFrame_pixelsInPalette (hc : s.cfg.Sound) (h : s.PixelsInPalette) (g : Gfx) :
    (s.drawFrame g).PixelsInPalette :=
  have htmp := blitAll_below s.cfg.geometry g hc.colours s.cfg.geometry.tmpClip .none
    (s.redrawCells.map s.bgTile) h.tmp
  { tmp := htmp
    fb := blitAll_below s.cfg.geometry g hc.colours _ .pen _ (Bitmap.paint_below _ _ (fun _ _ => htmp _ _) h.fb) }

theorem State.blankFrame_pixelsInPalette (hc : s.cfg.Sound) (h : s.PixelsInPalette) : s.blankFrame.PixelsInPalette where
  tmp := h.tmp
  fb := Bitmap.paint_below _ _ (fun _ _ => hc.fill) h.fb

/-- Every effect leaves bitmaps of the geometry's sizes; a refresh alone touches them. -/
theorem effect_bitmapsSized (hc : s.cfg.Sound) (h : s.BitmapsSized) (i : Instr) : (effect i s).BitmapsSized := by
  cases i with
  | screenRefresh full =>
    exact (State.screenRefresh_keeps (P := fun t => t.cfg.Sound ∧ t.BitmapsSized)
      (fun h => ⟨h.1, { h.2 with }⟩) (fun t h => ⟨h.1, State.drawFrame_bitmapsSized h.1 h.2 _⟩)
      (fun h => ⟨h.1, State.blankFrame_bitmapsSized h.1 h.2⟩) ⟨hc, h⟩ full).2
  | _ =>
    rw [effect_eq_effectUpdate]
    exact { h with }

/-- Every effect leaves pixels that are indices of the palette; a refresh alone writes pixels. -/
theorem effect_pixelsInPalette (hc : s.cfg.Sound) (h : s.PixelsInPalette) (i : Instr) :
    (effect i s).PixelsInPalette := by
  cases i with
  | screenRefresh full =>
    exact (State.screenRefresh_keeps (P := fun t => t.cfg.Sound ∧ t.PixelsInPalette)
      (fun h => ⟨h.1, { h.2 with }⟩) (fun t h => ⟨h.1, State.drawFrame_pixelsInPalette h.1 h.2 _⟩)
      (fun h => ⟨h.1, State.blankFrame_pixelsInPalette h.1 h.2⟩) ⟨hc, h⟩ full).2
  | _ =>
    rw [effect_eq_effectUpdate]
    exact { h with }

/-! ## The whole invariant -/

/-- Every admitted effect keeps the invariant. -/
theorem effect_inv (h : s.Inv) {a : Agent} {i : Instr} (hw : i.WellFormed s.cfg a = true) : (effect i s).Inv where
  configuration := by rw [effect_cfg]; exact h.configuration
  canonical := effect_memoriesCanonical h.canonical i
  within := effect_memoriesWithin h.configuration h.within hw
  latch := effect_latchSound h.latch i
  address := effect_addressTwelveBits h.address i
  dirty := effect_dirtySound h.dirty hw
  palette := by rw [State.PaletteDecoded, effect_palette, effect_cfg]; exact h.palette
  bitmaps := effect_bitmapsSized h.configuration h.bitmaps i
  pixels := effect_pixelsInPalette h.configuration h.pixels i

/-- Taking a transaction from the script keeps the invariant: it speaks of none of the model's own fields. -/
theorem State.Inv.accept (h : s.Inv) (tr : Transaction) (rest : List Transaction) : (s.accept tr rest).Inv where
  configuration := h.configuration
  canonical := { h.canonical with }
  within := { h.within with }
  latch := h.latch
  address := h.address
  dirty := { h.dirty with }
  palette := h.palette
  bitmaps := { h.bitmaps with }
  pixels := { h.pixels with }

end Sys2Proof.Machine

namespace Sys2Proof.Proofs

open Sys2Proof Sys2Proof.Machine

/-- Settles O12: a step stands still, or accepts an admitted transaction and performs its effect. -/
theorem stepKeepsTheInvariant : Obligations.StepKeepsTheInvariant := by
  intro s t h hst
  obtain ⟨-, rfl⟩ | ⟨tr, rest, i, -, -, hw, rfl⟩ := step_next_cases hst
  · exact h
  · exact effect_inv (h.accept tr rest) hw

end Sys2Proof.Proofs
end

section
/-! PROOFS. The dirty tracking: the place of each background cell in `tmp`, what redrawing the marked cells shows, and
that every effect marks each cell whose description it changes. -/
namespace Sys2Proof.Machine

open Sys2Proof

theorem clip_holds_iff {c : Clip} {x y : Int} :
    c.holds x y = true ↔ c.x0 ≤ x ∧ x ≤ c.x1 ∧ c.y0 ≤ y ∧ y ≤ c.y1 :=
  decide_eq_true_iff

/-! ## Blits of which one alone writes a position -/

/-- A position that one blit of a list writes, and no other, shows that blit. -/
theorem get_blitAll_of_only {w h : Nat} {b : Bitmap} (geo : Geometry) (g : Gfx) {clip : Clip} (mode : BlitMode)
    {ts : List Tile} {t : Tile} (hb : b.sized w h) (hc : clip.inside w h) {u : Nat} (hu : u < w) {v : Nat} (ht : t ∈ ts)
    (hw : t.writes geo g clip mode u v = true) (honly : ∀ a ∈ ts, a.writes geo g clip mode u v = true → a = t) :
    (blitAll geo g clip mode b ts).get u v = geo.colour g t.set t.color (t.penAt geo g u v) := by
  rw [get_blitAll geo g mode ts hb hc hu]
  cases hl : (ts.filter fun a => a.writes geo g clip mode u v).getLast? with
  | none =>
    have hmem : t ∈ ts.filter fun a => a.writes geo g clip mode u v := List.mem_filter.2 ⟨ht, hw⟩
    rw [List.getLast?_eq_none_iff.1 hl] at hmem
    exact absurd hmem List.not_mem_nil
  | some a =>
    obtain ⟨ha, hwa⟩ := List.mem_filter.1 (List.mem_of_getLast? hl)
    rw [honly a ha hwa]

/-! ## Places on a grid -/

/-- A column or row number, counted from the far end when the screen is flipped (R220). -/
def mirrored (flip : Bool) (size k : Nat) : Nat := if flip then size - 1 - k else k

theorem mirrored_lt (flip : Bool) {size k : Nat} (hk : k < size) : mirrored flip size k < size := by
  cases flip with
  | false => exact hk
  | true => exact (Nat.sub_le _ _).trans_lt (by omega)

theorem mirrored_inj {flip : Bool} {size j k : Nat} (hj : j < size) (hk : k < size)
    (h : mirrored flip size j = mirrored flip size k) : j = k := by
  cases flip with
  | false => exact h
  | true =>
    have h : size - 1 - j = size - 1 - k := h
    omega

/-- A number lies in one interval of a row of intervals of one length. -/
theorem eq_of_mem_interval {edge j k u : Nat} (hj : edge * j ≤ u) (hj' : u < edge * j + edge) (hk : edge * k ≤ u)
    (hk' : u < edge * k + edge) : j = k := by
  have hquot : ∀ i, edge * i ≤ u → u < edge * i + edge → u / edge = i := fun i hi hi' =>
    Nat.div_eq_of_lt_le (by rwa [Nat.mul_comm]) (by rwa [Nat.add_one_mul, Nat.mul_comm])
  exact (hquot j hj hj').symm.trans (hquot k hk hk')

namespace State

variable {s t : State} {n m : Nat}

/-! ## The place of a background cell (45_video_compositor R220) -/

/-- The column of `tmp` in which a cell is drawn. -/
def bgColumn (s : State) (n : Nat) : Nat := mirrored s.flipScreen s.cfg.geometry.bgCols (n % s.cfg.geometry.bgCols)

/-- The row of `tmp` in which a cell is drawn. -/
def bgRow (s : State) (n : Nat) : Nat := mirrored s.flipScreen s.cfg.geometry.bgRows (n / s.cfg.geometry.bgCols)

theorem bgTile_x (s : State) (n : Nat) : (s.bgTile n).x = (s.cfg.geometry.bgTile * s.bgColumn n : Nat) := by
  rw [Nat.cast_mul]
  rfl

theorem bgTile_y (s : State) (n : Nat) : (s.bgTile n).y = (s.cfg.geometry.bgTile * s.bgRow n : Nat) := by
  rw [Nat.cast_mul]
  rfl

theorem mod_bgCols_lt (hn : n < s.cfg.geometry.vramSize) : n % s.cfg.geometry.bgCols < s.cfg.geometry.bgCols :=
  Nat.mod_lt _ (Nat.pos_of_mul_pos_right (Nat.zero_lt_of_lt hn))

theorem div_bgCols_lt (hn : n < s.cfg.geometry.vramSize) : n / s.cfg.geometry.bgCols < s.cfg.geometry.bgRows :=
  Nat.div_lt_of_lt_mul hn

theorem bgColumn_lt (hn : n < s.cfg.geometry.vramSize) : s.bgColumn n < s.cfg.geometry.bgCols :=
  mirrored_lt _ (mod_bgCols_lt hn)

theorem bgRow_lt (hn : n < s.cfg.geometry.vramSize) : s.bgRow n < s.cfg.geometry.bgRows :=
  mirrored_lt _ (div_bgCols_lt hn)

/-- Distinct cells have distinct places. -/
theorem eq_of_bgColumn_bgRow (hn : n < s.cfg.geometry.vramSize) (hm : m < s.cfg.geometry.vramSize)
    (hcol : s.bgColumn n = s.bgColumn m) (hrow : s.bgRow n = s.bgRow m) : n = m := by
  have hmod := mirrored_inj (mod_bgCols_lt hn) (mod_bgCols_lt hm) hcol
  have hdiv := mirrored_inj (div_bgCols_lt hn) (div_bgCols_lt hm) hrow
  rw [← Nat.div_add_mod n s.cfg.geometry.bgCols, hmod, hdiv, Nat.div_add_mod]

/-- A cell covers the square of its place. -/
theorem bgTile_covers_iff {u v : Nat} :
    (s.bgTile n).covers s.cfg.geometry u v = true ↔
      (s.cfg.geometry.bgTile * s.bgColumn n ≤ u ∧
        u < s.cfg.geometry.bgTile * s.bgColumn n + s.cfg.geometry.bgTile) ∧
      (s.cfg.geometry.bgTile * s.bgRow n ≤ v ∧
        v < s.cfg.geometry.bgTile * s.bgRow n + s.cfg.geometry.bgTile) := by
  have hedge : s.cfg.geometry.edge (s.bgTile n).set = s.cfg.geometry.bgTile := rfl
  simp only [Tile.covers, decide_eq_true_eq, hedge, bgTile_x, bgTile_y]
  omega

/-- Two cells that cover one position are the same cell. -/
theorem eq_of_bgTile_covers (hn : n < s.cfg.geometry.vramSize) (hm : m < s.cfg.geometry.vramSize) {u v : Nat}
    (hcn : (s.bgTile n).covers s.cfg.geometry u v = true) (hcm : (s.bgTile m).covers s.cfg.geometry u v = true) :
    n = m := by
  obtain ⟨⟨nx, nx'⟩, ny, ny'⟩ := bgTile_covers_iff.1 hcn
  obtain ⟨⟨mx, mx'⟩, my, my'⟩ := bgTile_covers_iff.1 hcm
  exact eq_of_bgColumn_bgRow hn hm (eq_of_mem_interval nx nx' mx mx') (eq_of_mem_interval ny ny' my my')

/-- A cell lies inside `tmp`. -/
theorem lt_tmp_of_bgTile_covers (hn : n < s.cfg.geometry.vramSize) {u v : Nat}
    (hc : (s.bgTile n).covers s.cfg.geometry u v = true) :
    u < s.cfg.geometry.tmpW ∧ v < s.cfg.geometry.tmpH := by
  obtain ⟨⟨-, hx⟩, -, hy⟩ := bgTile_covers_iff.1 hc
  rw [← Nat.mul_succ] at hx hy
  exact ⟨hx.trans_le (Nat.mul_le_mul_left _ (bgColumn_lt hn)), hy.trans_le (Nat.mul_le_mul_left _ (bgRow_lt hn))⟩

/-! ## Redrawing the background (R220) -/

theorem mem_redrawCells_lt (hd : s.DirtySound) (hn : n ∈ s.redrawCells) : n < s.cfg.geometry.vramSize := by
  unfold redrawCells at hn
  split at hn
  · exact hd.cells n hn
  · split at hn
    · exact List.mem_range.1 hn
    · exact absurd hn List.not_mem_nil

/-- Every marked cell is redrawn: in variant S a mark comes with `repaint`, and then all are (R221). -/
theorem mem_redrawCells_of_dirty (hd : s.DirtySound) (hn : n ∈ s.dirty) : n ∈ s.redrawCells := by
  unfold redrawCells
  split
  · exact hn
  · next hv =>
    rw [if_pos (hd.repaint hv (List.ne_nil_of_mem hn))]
    exact List.mem_range.2 (hd.cells n hn)

/-- With no transparency and the whole of `tmp` as its clip, a cell writes what it covers. -/
theorem bgTile_writes_iff (hn : n < s.cfg.geometry.vramSize) (g : Gfx) {u v : Nat} :
    (s.bgTile n).writes s.cfg.geometry g s.cfg.geometry.tmpClip .none u v = true ↔
      (s.bgTile n).covers s.cfg.geometry u v = true := by
  simp only [Tile.writes, decide_eq_true_eq]
  refine ⟨fun h => h.1, fun h => ⟨h, ?_, fun hp => nomatch hp.1⟩⟩
  obtain ⟨hu, hv⟩ := lt_tmp_of_bgTile_covers hn h
  rw [clip_holds_iff]
  simp only [Geometry.tmpClip]
  omega

/-- The only redrawn cell that can write a position of cell `n` is `n` itself. -/
theorem redrawn_writes_only (hd : s.DirtySound) (g : Gfx) (hn : n < s.cfg.geometry.vramSize) {u v : Nat}
    (hcov : (s.bgTile n).covers s.cfg.geometry u v = true) {a : Tile} (ha : a ∈ s.redrawCells.map s.bgTile)
    (hw : a.writes s.cfg.geometry g s.cfg.geometry.tmpClip .none u v = true) :
    n ∈ s.redrawCells ∧ a = s.bgTile n := by
  obtain ⟨m, hm, rfl⟩ := List.mem_map.1 ha
  have hmlt := mem_redrawCells_lt hd hm
  obtain rfl := eq_of_bgTile_covers hmlt hn ((bgTile_writes_iff hmlt g).1 hw) hcov
  exact ⟨hm, rfl⟩

/-- The pixels of a cell as positions of `tmp` that it covers. -/
theorem bgTile_pixel (s : State) (g : Gfx) (n : Nat) {px py : Nat} (hpx : px < s.cfg.geometry.bgTile)
    (hpy : py < s.cfg.geometry.bgTile) :
    ∃ u v : Nat, (s.bgTile n).x + px = u ∧ (s.bgTile n).y + py = v ∧
      (s.bgTile n).covers s.cfg.geometry u v = true ∧
      (s.bgTile n).penAt s.cfg.geometry g u v = (s.bgTile n).pen s.cfg.geometry g px py := by
  have hx := s.bgTile_x n
  have hy := s.bgTile_y n
  refine ⟨s.cfg.geometry.bgTile * s.bgColumn n + px, s.cfg.geometry.bgTile * s.bgRow n + py, by omega, by omega,
    bgTile_covers_iff.2 (by omega), ?_⟩
  rw [Tile.penAt]
  congr 1 <;> omega

/-- Redrawing shows every cell: a redrawn cell because no other covers its place, any other because it was not marked
and nothing is drawn over it. -/
theorem redrawn_shows {g : Gfx} (hc : s.cfg.Sound) (hsized : s.tmp.sized s.cfg.geometry.tmpW s.cfg.geometry.tmpH)
    (hd : s.DirtySound) (hcur : s.BackgroundCurrent g) (hn : n < s.cfg.geometry.vramSize) :
    (s.bgTile n).shownBy s.cfg.geometry g
      (blitAll s.cfg.geometry g s.cfg.geometry.tmpClip .none s.tmp (s.redrawCells.map s.bgTile)) := by
  intro px py hpx hpy
  obtain ⟨u, v, hu, hv, hcov, hpen⟩ := s.bgTile_pixel g n hpx hpy
  have hlt := (lt_tmp_of_bgTile_covers hn hcov).1
  by_cases hredrawn : n ∈ s.redrawCells
  · rw [hu, hv, Int.toNat_natCast, Int.toNat_natCast, ← hpen]
    exact get_blitAll_of_only s.cfg.geometry g .none hsized hc.tmpClip_inside hlt (List.mem_map_of_mem hredrawn)
      ((bgTile_writes_iff hn g).2 hcov) fun a ha hw => (redrawn_writes_only hd g hn hcov ha hw).2
  · rw [← hcur n hn (fun hmark => hredrawn (mem_redrawCells_of_dirty hd hmark)) px py hpx hpy, hu, hv,
      Int.toNat_natCast, Int.toNat_natCast]
    exact get_blitAll_of_not_written s.cfg.geometry g .none _ hsized hc.tmpClip_inside hlt fun a ha =>
      Bool.eq_false_iff.2 fun hw => hredrawn (redrawn_writes_only hd g hn hcov ha hw).1

/-- A drawn frame leaves every cell of the background current. -/
theorem drawFrame_backgroundCurrent {g : Gfx} (hc : s.cfg.Sound)
    (hsized : s.tmp.sized s.cfg.geometry.tmpW s.cfg.geometry.tmpH) (hd : s.DirtySound) (hcur : s.BackgroundCurrent g) :
    (s.drawFrame g).BackgroundCurrent g :=
  fun _ hn _ => redrawn_shows hc hsized hd hcur hn

/-! ## Marking what changes -/

/-- With every cell marked nothing is claimed of `tmp`. -/
theorem backgroundCurrent_of_all_marked {g : Gfx} (hall : ∀ n < s.cfg.geometry.vramSize, n ∈ s.dirty) :
    s.BackgroundCurrent g :=
  fun n hn hmark => absurd (hall n hn) hmark

/-- The tracking argument: `tmp` stays, and a cell that is not marked after was not marked before and is described as it
was. -/
theorem BackgroundCurrent.of_tracked {g : Gfx} (h : s.BackgroundCurrent g) (hcfg : t.cfg = s.cfg) (htmp : t.tmp = s.tmp)
    (hsame : ∀ n, n ∉ t.dirty → n ∉ s.dirty ∧ t.bgTile n = s.bgTile n) : t.BackgroundCurrent g := by
  intro n hn hmark
  obtain ⟨hmark', htile⟩ := hsame n hmark
  rw [htile, hcfg, htmp]
  exact h n (hcfg ▸ hn) hmark'

/-- A cell is described by its two video RAM bytes, the palette bank and the flip flag (R220). -/
theorem bgTile_congr (hcfg : t.cfg = s.cfg) (hvram : t.vram.read n = s.vram.read n)
    (hcram : t.cram.read n = s.cram.read n) (hbank : t.paletteBank = s.paletteBank)
    (hflip : t.flipScreen = s.flipScreen) : t.bgTile n = s.bgTile n := by
  simp only [bgTile, hcfg, hvram, hcram, hbank, hflip]

/-- An operation that marks every cell when the palette bank or the flip flag changes, and leaves the video RAMs and `tmp`
alone, keeps unmarked cells current. -/
theorem BackgroundCurrent.of_markAllIf {g : Gfx} (h : s.BackgroundCurrent g) {change : Prop} [Decidable change]
    (hcfg : t.cfg = s.cfg) (htmp : t.tmp = s.tmp) (hvram : t.vram = s.vram) (hcram : t.cram = s.cram)
    (hdirty : t.dirty = (s.markAllIf change).dirty)
    (hkept : ¬change → t.paletteBank = s.paletteBank ∧ t.flipScreen = s.flipScreen) : t.BackgroundCurrent g := by
  rw [markAllIf_eq] at hdirty
  split at hdirty
  · refine backgroundCurrent_of_all_marked fun n hn => ?_
    rw [hdirty]
    exact List.mem_range.2 (hcfg ▸ hn)
  · next hc =>
    obtain ⟨hbank, hflip⟩ := hkept hc
    exact h.of_tracked hcfg htmp fun n hn =>
      ⟨hdirty ▸ hn, bgTile_congr hcfg (by rw [hvram]) (by rw [hcram]) hbank hflip⟩

end State

variable {s : State}

/-- Every effect keeps the unmarked cells current (10_state R43, 20_memory R81). -/
theorem effect_backgroundCurrent (h : s.Inv) (hcur : s.BackgroundCurrent Config.gfx) (i : Instr) :
    (effect i s).BackgroundCurrent Config.gfx := by
  cases i with
  | vramWr off v =>
    refine hcur.of_tracked rfl rfl fun n hn => ?_
    obtain ⟨hne, hmark⟩ := not_or.1 (mt mem_markIn.2 hn)
    exact ⟨hmark, State.bgTile_congr rfl (Memory.read_write_other s.vram v hne) rfl rfl rfl⟩
  | cramWr off v =>
    refine hcur.of_tracked rfl rfl fun n hn => ?_
    obtain ⟨hne, hmark⟩ := not_or.1 (mt mem_markIn.2 hn)
    exact ⟨hmark, State.bgTile_congr rfl rfl (Memory.read_write_other s.cram v hne) rfl rfl⟩
  | bankWr | vidctrlWr | flipWr =>
    rw [effect_eq_effectUpdate]
    exact hcur.of_markAllIf rfl rfl rfl rfl rfl fun hsame => ⟨rfl, not_not.1 hsame⟩
  | palbankWr v =>
    rw [effect_eq_effectUpdate]
    exact hcur.of_markAllIf rfl rfl rfl rfl rfl fun hsame => ⟨not_not.1 hsame, rfl⟩
  | screenRefresh full =>
    have hmarked : s.markAllDirty.BackgroundCurrent Config.gfx :=
      State.backgroundCurrent_of_all_marked fun _ => List.mem_range.2
    show (s.screenRefresh Config.gfx full).BackgroundCurrent Config.gfx
    unfold State.screenRefresh
    split
    · cases full with
      | false => exact State.drawFrame_backgroundCurrent h.configuration h.bitmaps.tmp h.dirty hcur
      | true =>
        exact State.drawFrame_backgroundCurrent (s := s.markAllDirty) h.configuration h.bitmaps.tmp
          s.markAllDirty_dirtySound hmarked
    · exact hcur
  | _ =>
    rw [effect_eq_effectUpdate]
    exact hcur

end Sys2Proof.Machine

namespace Sys2Proof.Proofs

open Sys2Proof Sys2Proof.Machine

/-- Settles O53: a step stands still, or accepts an admitted transaction, which changes nothing the tracking speaks of, and
performs its effect. -/
theorem stepKeepsUnmarkedCellsCurrent : Obligations.StepKeepsUnmarkedCellsCurrent := by
  intro s t h hcur hst
  obtain ⟨-, rfl⟩ | ⟨tr, rest, i, -, -, -, rfl⟩ := step_next_cases hst
  · exact hcur
  · exact effect_backgroundCurrent (h.accept tr rest) hcur i

end Sys2Proof.Proofs
end

section
/-! PROOFS. The memory spaces: what an operation leaves in each cell, what a Port B write does to `sharedram2`, `latch` and
`address`, and that a read changes nothing (20_memory R60 to R75). -/
namespace Sys2Proof.Machine

open Sys2Proof

/-! ## What makes a transaction admitted -/

theorem wellFormed_intro {c : Cfg} {a : Agent} {i : Instr} (hon : i.existsOn c = true)
    (hwired : i.issuers.contains a = true) (hin : i.inRange c = true) : i.WellFormed c a = true := by
  rw [Instr.WellFormed, hon, hwired, hin]
  rfl

/-! ## One cell of a space -/

/-- A write changes no cell but the one it names. -/
theorem Memory.eq_of_read_write_ne {w : Nat} {m : Memory w} {a b : Nat} {v : BitVec w}
    (h : (m.write a v).read b ≠ m.read b) : a = b := by
  by_contra hne
  exact h (Memory.read_write_other m v (Ne.symm hne))

/-- A write to an input port changes no port but the one it names. -/
theorem eq_of_getD_setIfInBounds_ne {ports : Vector Byte 5} {a b : Nat} {v : Byte}
    (h : (ports.setIfInBounds a v).toList.getD b 0 ≠ ports.toList.getD b 0) : a = b := by
  by_contra hne
  refine h ?_
  rw [List.getD_eq_getElem?_getD, List.getD_eq_getElem?_getD, Vector.getElem?_toList, Vector.getElem?_toList,
    Vector.getElem?_setIfInBounds_ne hne]

/-! ## The windows of the proxy (20_memory R71) -/

theorem inSharedWindow_iff {a : BitVec 16} : inSharedWindow a = true ↔ a &&& 0x0C00 = 0x0C00 := decide_eq_true_iff

/-- No address of the `sharedram2` window lies in the input-port window. -/
theorem not_inInputWindow_of_shared {a : BitVec 16} (h : a &&& 0x0C00 = 0x0C00) : a &&& 0x0800 ≠ 0 := by
  intro hinput
  have hbit : (a &&& 0x0C00) &&& 0x0800 = a &&& 0x0800 := by rw [BitVec.and_assoc]; rfl
  rw [h, hinput] at hbit
  exact absurd hbit (by decide)

/-- The offset a proxied access reaches is the address modulo 0x400. -/
theorem toNat_and_proxyMask (a : BitVec 16) : (a &&& 0x03FF).toNat = a.toNat % 0x400 := by
  rw [BitVec.toNat_and]
  exact Nat.and_two_pow_sub_one_eq_mod a.toNat 10

/-! ## The access and the interrupt of a Port B write, read cell by cell -/

/-- The bit-5 action stores its draw at 0x7C (43_protection_mcu R168). -/
theorem State.onEdge_irq_read (s : State) (irq : Bool) (b : Nat) :
    (s.onEdge irq State.raiseMainIrq).sharedram2.read b =
      if irq = true ∧ b = 0x7C then s.nextDraw else s.sharedram2.read b := by
  cases irq with
  | false => simp
  | true => simp [State.raiseMainIrq_eq, Memory.read_write]

theorem State.onEdge_irq_latch (s : State) (irq : Bool) : (s.onEdge irq State.raiseMainIrq).latch = s.latch := by
  cases irq with
  | false => rfl
  | true => rw [State.onEdge_true, State.raiseMainIrq_eq]

/-- A proxied write stores `port_a_out` in the window of `sharedram2` alone (43_protection_mcu R166). -/
theorem State.proxyWrite_read (s : State) (b : Nat) :
    s.proxyWrite.sharedram2.read b =
      if s.address &&& 0x0C00 = 0x0C00 ∧ b = (s.address &&& 0x03FF).toNat then s.portAOut else s.sharedram2.read b := by
  rw [State.proxyWrite_eq]
  dsimp only
  by_cases hwin : inSharedWindow s.address = true
  · rw [if_pos hwin, Memory.read_write]
    simp only [inSharedWindow_iff.1 hwin, true_and]
    rfl
  · rw [if_neg hwin, if_neg fun hboth => hwin (inSharedWindow_iff.2 hboth.1)]

/-- A proxied read leaves `sharedram2` as it is. -/
theorem State.proxyRead_sharedram2 (s : State) : s.proxyRead.sharedram2 = s.sharedram2 := by rw [State.proxyRead_eq]

/-- A proxied read of the window of `sharedram2` latches the byte there (43_protection_mcu R166). -/
theorem State.proxyRead_latch_of_shared {s : State} (h : s.address &&& 0x0C00 = 0x0C00) :
    s.proxyRead.latch = s.sharedram2.read (s.address &&& 0x03FF).toNat := by
  rw [State.proxyRead_eq]
  exact (if_neg (mt of_decide_eq_true (not_inInputWindow_of_shared h))).trans (if_pos (inSharedWindow_iff.2 h))

/-- The bit-4 action changes the byte of `sharedram2` that a write reaches (43_protection_mcu R165, R166). -/
theorem State.onEdge_access_read (s : State) (access dir : Bool) (b : Nat) :
    (s.onEdge access (State.proxyAccess · dir)).sharedram2.read b =
      if access = true ∧ dir = false ∧ s.address &&& 0x0C00 = 0x0C00 ∧ b = (s.address &&& 0x03FF).toNat then s.portAOut
      else s.sharedram2.read b := by
  cases access with
  | false => exact (if_neg fun h => Bool.false_ne_true h.1).symm
  | true =>
    cases dir with
    | true => exact (congrArg (Memory.read · b) s.proxyRead_sharedram2).trans (if_neg fun h => nomatch h.2.1).symm
    | false =>
      simp only [true_and]
      exact s.proxyWrite_read b

/-- No access draws. -/
theorem State.onEdge_access_nextDraw (s : State) (access dir : Bool) :
    (s.onEdge access (State.proxyAccess · dir)).nextDraw = s.nextDraw := by
  cases access with
  | false => rfl
  | true =>
    rw [State.onEdge_true, State.proxyAccess_frame]
    rfl

end Sys2Proof.Machine

namespace Sys2Proof.Proofs

open Sys2Proof Sys2Proof.Machine Sys2Proof.Claims

/-! ## A Port B write -/

/-- The state in which the access of a Port B write happens: the byte is delivered and the address is loaded. -/
def afterLoads (s : State) (new : Byte) : State :=
  { s with
    portAIn := if Falls s new 0 then s.latch else s.portAIn
    address := loadedAddress s new }

/-- A Port B write after its three loads: the access, then the interrupt (43_protection_mcu R161). -/
theorem edgeActions_eq_afterLoads (s : State) (new : Byte) :
    s.edgeActions (detectEdges s.portBOut new s.ddrB) (new.getLsbD 3) =
      ((afterLoads s new).onEdge (Falls s new 4) (State.proxyAccess · (new.getLsbD 3))).onEdge (Falls s new 5)
        State.raiseMainIrq := by
  rw [State.edgeActions, State.onEdge_loads_eq]
  rfl

theorem mcuPbWr_address (s : State) (new : Byte) : (effect (.mcuPbWr new) s).address = loadedAddress s new := by
  simp only [effect, edgeActions_eq_afterLoads]
  exact (State.onEdge_access_irq _ _ _ _).2

/-- Every byte of `sharedram2` after a Port B write (43_protection_mcu R166, R168). -/
theorem mcuPbWr_sharedram2_read (s : State) (new : Byte) (b : Nat) :
    (effect (.mcuPbWr new) s).sharedram2.read b =
      if Falls s new 5 = true ∧ b = 0x7C then s.nextDraw else proxiedByte s new b := by
  simp only [effect, edgeActions_eq_afterLoads]
  rw [State.onEdge_irq_read, State.onEdge_access_read, State.onEdge_access_nextDraw]
  rfl

/-- A proxied read of the window of `sharedram2` latches the byte there. -/
theorem mcuPbWr_latch_of_sharedRead {s : State} {new : Byte} (hfall : Falls s new 4 = true)
    (hdir : new.getLsbD 3 = true) (hwin : loadedAddress s new &&& 0x0C00 = 0x0C00) :
    (effect (.mcuPbWr new) s).latch = s.sharedram2.read (loadedAddress s new &&& 0x03FF).toNat := by
  simp only [effect, edgeActions_eq_afterLoads]
  rw [State.onEdge_irq_latch, hfall, hdir]
  exact State.proxyRead_latch_of_shared (s := afterLoads s new) hwin

/-- A byte of `sharedram2` that a Port B write changes is the interrupt's or the one the proxied write reaches. -/
theorem mcuPbWr_sharedram2_changes {s : State} {new : Byte} {a : Nat}
    (h : (effect (.mcuPbWr new) s).sharedram2.read a ≠ s.sharedram2.read a) :
    (Falls s new 5 = true ∧ a = 0x7C) ∨
      (Falls s new 4 = true ∧ new.getLsbD 3 = false ∧ a = (effect (.mcuPbWr new) s).address.toNat % 0x400) := by
  rw [mcuPbWr_sharedram2_read] at h
  by_cases hirq : Falls s new 5 = true ∧ a = 0x7C
  · exact .inl hirq
  · rw [if_neg hirq] at h
    by_contra hnone
    refine h (if_neg ?_)
    rintro ⟨hfall, hdir, -, ha⟩
    rw [mcuPbWr_address, ← toNat_and_proxyMask] at hnone
    exact hnone (.inr ⟨hfall, hdir, ha⟩)

/-! ## Who writes each cell -/

/-- Settles O36: space by space, every operation but the writers leaves the space as it was by definition of its record
update, and a writer leaves all but one cell. -/
theorem memoryCellsWrittenOnlyByTheirOperations : Obligations.MemoryCellsWrittenOnlyByTheirOperations := by
  intro i s t a h
  obtain ⟨-, rfl⟩ := (exec_next_iff i s t).1 h
  refine ⟨?sharedram1, ?sharedram2, ?sharedRam, ?vram, ?cram, ?objram, ?objxram, ?fgram, ?inp, ?bitmaps⟩
  case sharedram2 =>
    cases i with
    | sr2Wr off v => exact fun h => .inl ⟨off, v, rfl, Memory.eq_of_read_write_ne h⟩
    | mcuPbWr v => exact fun h => .inr ⟨v, rfl, mcuPbWr_sharedram2_changes h⟩
    | _ =>
      rw [effect_eq_effectUpdate]
      exact absurd rfl
  all_goals rw [effect_eq_effectUpdate]
  case sharedram1 =>
    cases i with
    | sr1Wr off v => exact fun h => ⟨off, v, rfl, Memory.eq_of_read_write_ne h⟩
    | _ => exact absurd rfl
  case sharedRam =>
    cases i with
    | shrWr off v => exact fun h => ⟨off, v, rfl, Memory.eq_of_read_write_ne h⟩
    | _ => exact absurd rfl
  case vram =>
    cases i with
    | vramWr off v => exact fun h => ⟨off, v, rfl, Memory.eq_of_read_write_ne h⟩
    | _ => exact absurd rfl
  case cram =>
    cases i with
    | cramWr off v => exact fun h => ⟨off, v, rfl, Memory.eq_of_read_write_ne h⟩
    | _ => exact absurd rfl
  case objram =>
    cases i with
    | objWr off v => exact fun h => ⟨off, v, rfl, Memory.eq_of_read_write_ne h⟩
    | _ => exact absurd rfl
  case objxram =>
    cases i with
    | objxWr off v => exact fun h => ⟨off, v, rfl, Memory.eq_of_read_write_ne h⟩
    | _ => exact absurd rfl
  case fgram =>
    cases i with
    | fgWr off v => exact fun h => ⟨off, v, rfl, Memory.eq_of_read_write_ne h⟩
    | _ => exact absurd rfl
  case inp =>
    cases i with
    | envInport idx v => exact fun h => ⟨idx, v, rfl, eq_of_getD_setIfInBounds_ne h⟩
    | _ => exact absurd rfl
  case bitmaps =>
    cases i with
    | screenRefresh full => exact fun _ => ⟨full, rfl⟩
    | _ => exact fun h => h.elim (absurd rfl) (absurd rfl)

/-! ## Reads -/

/-- A read replies with a byte, and with the same byte in the state it left (20_memory R69). -/
theorem effect_of_isRead {i : Instr} (hread : IsRead i) (s : State) :
    ∃ v, effect i s = s.reply v ∧ effect i (s.reply v) = s.reply v := by
  cases i with
  | sr1Rd | sr2Rd | shrRd | romwinRd | sndlatchRd | mcuPaRd | mcuPbRd | vramRd | cramRd | objRd | objxRd | fgRd
  | fakeRd => exact ⟨_, rfl, rfl⟩
  | _ => exact hread.elim

/-- Settles O40: a reply alone leaves the check of the transaction and the byte read as they were. -/
theorem readsChangeNothing : Obligations.ReadsChangeNothing := by
  refine ⟨fun i s t hread h => ?_, fun s t h => ((exec_next_iff _ s t).1 h).2⟩
  obtain ⟨hw, rfl⟩ := (exec_next_iff i s t).1 h
  obtain ⟨v, hv, hagain⟩ := effect_of_isRead hread s
  rw [hv]
  exact ⟨⟨v, rfl⟩, (exec_next_iff i (s.reply v) _).2 ⟨hw, hagain.symm⟩⟩

/-! ## A shared write, seen by every agent (20_memory R75) -/

/-- A CPU is wired to the reads of shared RAM (60_exceptions R262), so that a read is admitted where its block exists and
holds its offset, and answers the byte there. -/
theorem exec_sharedRead {a : Agent} (ha : a = .main ∨ a = .sub) {i : Instr} {s : State} {v : Byte}
    (hissuers : i.issuers = [.main, .sub]) (hon : i.existsOn s.cfg = true) (hin : i.inRange s.cfg = true)
    (hv : effect i { s with agent := a } = { s with agent := a }.reply v) :
    ∃ u, exec i { s with agent := a } = .next u ∧ u.ret = some v := by
  have hwired : i.issuers.contains a = true := by
    rw [hissuers]
    obtain rfl | rfl := ha <;> rfl
  exact ⟨_, (exec_next_iff i { s with agent := a } _).2 ⟨wellFormed_intro hon hwired hin, hv.symm⟩, rfl⟩

/-- The MCU's Port B write is admitted where the MCU is fitted, and a proxied read of `sharedram2` latches the byte
there. -/
theorem exec_proxiedRead {s : State} {new : Byte} (hmcu : HasMcu s) (hagent : s.agent = .mcu)
    (hfall : Falls s new 4 = true) (hdir : new.getLsbD 3 = true) (hwin : loadedAddress s new &&& 0x0C00 = 0x0C00) :
    ∃ u, exec (.mcuPbWr new) s = .next u ∧ u.latch = s.sharedram2.read (loadedAddress s new &&& 0x03FF).toNat := by
  have hwired : (Instr.mcuPbWr new).issuers.contains s.agent = true := by
    rw [hagent]
    rfl
  exact ⟨_, (exec_next_iff _ _ _).2 ⟨wellFormed_intro hmcu hwired rfl, rfl⟩, mcuPbWr_latch_of_sharedRead hfall hdir hwin⟩

/-- A byte read after a write at the offset of an operation. -/
theorem read_write_offset (m : Memory 8) (p q : Offset) (v : Byte) :
    (m.write p.toNat v).read q.toNat = if q = p then v else m.read q.toNat := by
  simp only [Memory.read_write, BitVec.toNat_inj]

/-- Settles O16: a CPU's read is admitted where the write was, and the byte of each space after the write is known. -/
theorem sharedWriteIsVisibleToEveryAgent : Obligations.SharedWriteIsVisibleToEveryAgent := by
  intro s t a p q v ha
  refine ⟨?sr1, ?sr2, ?shr, ?proxiedRead, ?proxiedWrite⟩
  case sr1 | sr2 | shr =>
    intro h hq
    obtain ⟨hw, rfl⟩ := (exec_next_iff _ s t).1 h
    rw [← read_write_offset]
    exact exec_sharedRead ha rfl (wellFormed_existsOn hw :) (decide_eq_true hq) rfl
  case proxiedRead =>
    intro new h hmcu hfall hdir hwin
    obtain ⟨-, rfl⟩ := (exec_next_iff _ s t).1 h
    obtain ⟨u, hu, hlatch⟩ :=
      exec_proxiedRead (s := { effect (.sr2Wr p v) s with agent := .mcu }) hmcu rfl hfall hdir hwin
    exact ⟨u, hu, hlatch.trans (Memory.read_write _ _ _ _)⟩
  case proxiedWrite =>
    intro new h hfall hirq hdir hwin hon hq
    obtain ⟨-, rfl⟩ := (exec_next_iff _ s t).1 h
    have hbyte : (effect (.mcuPbWr new) s).sharedram2.read q.toNat =
        if q.toNat = (loadedAddress s new &&& 0x03FF).toNat then s.portAOut else s.sharedram2.read q.toNat := by
      rw [mcuPbWr_sharedram2_read, hirq, if_neg fun h => Bool.false_ne_true h.1, proxiedByte]
      simp only [hfall, hdir, hwin, true_and]
    rw [← hbyte]
    refine exec_sharedRead ha rfl ?_ ?_ rfl <;> rw [effect_cfg]
    · exact hon
    · exact decide_eq_true hq

end Sys2Proof.Proofs
end

section
/-! PROOFS. The frame as the pixels show it: the background cells fill `tmp`, the picture depends on `tmp` through its
pixels alone, and so a full and an incremental refresh agree (20_memory R81, 45_video_compositor R218, R220). -/
namespace Sys2Proof.Machine

open Sys2Proof

/-! ## Places on a grid -/

/-- Counting from the far end twice is counting from the near end. -/
theorem mirrored_mirrored (flip : Bool) {size k : Nat} (hk : k < size) :
    mirrored flip size (mirrored flip size k) = k := by
  cases flip with
  | false => rfl
  | true =>
    show size - 1 - (size - 1 - k) = k
    omega

/-! ## Pixels that agree -/

/-- A scroll copy shows no pixel from outside `tmp` (45_video_compositor R217). -/
theorem scrolled_congr {q : Geometry} {b d : Bitmap} (hw : 0 < q.tmpW) (hh : 0 < q.tmpH)
    (h : ∀ x y, x < q.tmpW → y < q.tmpH → b.get x y = d.get x y) (dx dy : Int) (x y : Nat) :
    scrolled q b dx dy x y = scrolled q d dx dy x y := by
  have hmod : ∀ (i : Int) {m : Nat}, 0 < m → (i % m).toNat < m := fun i m hm => by
    have := Int.emod_nonneg i (Int.natCast_ne_zero.2 hm.ne')
    have := Int.emod_lt_of_pos i (Int.natCast_pos.2 hm)
    omega
  exact h _ _ (hmod _ hw) (hmod _ hh)

/-- A list of blits over pixels that agree leaves pixels that agree. -/
theorem get_blitAll_congr {w h : Nat} {b d : Bitmap} (geo : Geometry) (g : Gfx) {clip : Clip} (mode : BlitMode)
    (ts : List Tile) (hb : b.sized w h) (hd : d.sized w h) (hc : clip.inside w h) {u : Nat} (hu : u < w) {v : Nat}
    (he : b.get u v = d.get u v) : (blitAll geo g clip mode b ts).get u v = (blitAll geo g clip mode d ts).get u v := by
  rw [get_blitAll geo g mode ts hb hc hu, get_blitAll geo g mode ts hd hc hu, he]

namespace State

variable {s t : State}

/-- Every place of the grid is a cell's (45_video_compositor R220). -/
theorem exists_cell_at (s : State) {col row : Nat} (hcol : col < s.cfg.geometry.bgCols)
    (hrow : row < s.cfg.geometry.bgRows) :
    ∃ n < s.cfg.geometry.vramSize, s.bgColumn n = col ∧ s.bgRow n = row := by
  have hcol' := mirrored_lt s.flipScreen hcol
  have hrow' := mirrored_lt s.flipScreen hrow
  have hpos := Nat.zero_lt_of_lt hcol
  refine ⟨mirrored s.flipScreen s.cfg.geometry.bgCols col +
    s.cfg.geometry.bgCols * mirrored s.flipScreen s.cfg.geometry.bgRows row, ?_, ?_, ?_⟩
  · calc _ < s.cfg.geometry.bgCols + s.cfg.geometry.bgCols * mirrored s.flipScreen s.cfg.geometry.bgRows row :=
        Nat.add_lt_add_right hcol' _
      _ = s.cfg.geometry.bgCols * (mirrored s.flipScreen s.cfg.geometry.bgRows row + 1) := by ring
      _ ≤ s.cfg.geometry.vramSize := Nat.mul_le_mul_left _ hrow'
  · rw [bgColumn, Nat.add_mul_mod_self_left, Nat.mod_eq_of_lt hcol', mirrored_mirrored _ hcol]
  · rw [bgRow, Nat.add_mul_div_left _ _ hpos, Nat.div_eq_of_lt hcol', Nat.zero_add, mirrored_mirrored _ hrow]

/-- The cells fill `tmp`: every position is a pixel of one of them. -/
theorem exists_bgTile_pixel (s : State) {x y : Nat} (hx : x < s.cfg.geometry.tmpW) (hy : y < s.cfg.geometry.tmpH) :
    ∃ n < s.cfg.geometry.vramSize, ∃ px < s.cfg.geometry.bgTile, ∃ py < s.cfg.geometry.bgTile,
      ((s.bgTile n).x + px).toNat = x ∧ ((s.bgTile n).y + py).toNat = y := by
  have htile : 0 < s.cfg.geometry.bgTile := Nat.pos_of_mul_pos_right (Nat.zero_lt_of_lt hx)
  obtain ⟨n, hn, hcol, hrow⟩ := s.exists_cell_at (Nat.div_lt_of_lt_mul hx) (Nat.div_lt_of_lt_mul hy)
  refine ⟨n, hn, x % s.cfg.geometry.bgTile, Nat.mod_lt _ htile, y % s.cfg.geometry.bgTile, Nat.mod_lt _ htile, ?_, ?_⟩
  · rw [bgTile_x, hcol, ← Nat.cast_add, Int.toNat_natCast, Nat.div_add_mod]
  · rw [bgTile_y, hrow, ← Nat.cast_add, Int.toNat_natCast, Nat.div_add_mod]

/-- Two bitmaps that both show every cell of the background show the same pixels of `tmp`. -/
theorem get_eq_of_shownBy {g : Gfx} {b d : Bitmap}
    (hb : ∀ n < s.cfg.geometry.vramSize, (s.bgTile n).shownBy s.cfg.geometry g b)
    (hd : ∀ n < s.cfg.geometry.vramSize, (s.bgTile n).shownBy s.cfg.geometry g d) {x y : Nat}
    (hx : x < s.cfg.geometry.tmpW) (hy : y < s.cfg.geometry.tmpH) : b.get x y = d.get x y := by
  obtain ⟨n, hn, px, hpx, py, hpy, rfl, rfl⟩ := s.exists_bgTile_pixel hx hy
  rw [hb n hn px py hpx hpy, hd n hn px py hpx hpy]

/-! ## The picture as a function of the pixels of `tmp` -/

/-- Two states of one configuration with the same scroll offset and the same overlay, whose bitmaps show the same pixels,
compose the same picture (45_video_compositor R218). -/
theorem composeFrame_congr {g : Gfx} (hc : s.cfg.Sound) (hs : s.BitmapsSized) (ht : t.BitmapsSized)
    (hcfg : t.cfg = s.cfg) (hscroll : t.scrollOffset g = s.scrollOffset g) (hover : t.overlay g = s.overlay g)
    (htmp : ∀ x y, x < s.cfg.geometry.tmpW → y < s.cfg.geometry.tmpH → t.tmp.get x y = s.tmp.get x y) {x y : Nat}
    (hx : x < s.cfg.geometry.fbW) (hfb : t.fb.get x y = s.fb.get x y) :
    (t.composeFrame g).get x y = (s.composeFrame g).get x y := by
  have htfb := ht.fb
  rw [hcfg] at htfb
  have hcopied (b : State) (hb : b.fb.sized s.cfg.geometry.fbW s.cfg.geometry.fbH) (dx dy : Int) :=
    Bitmap.paint_spec hb hc.clip_inside (scrolled s.cfg.geometry b.tmp dx dy) hx y
  simp only [composeFrame, hcfg, hscroll, hover]
  refine get_blitAll_congr _ g .pen _ (hcopied t htfb _ _).1 (hcopied s hs.fb _ _).1 hc.clip_inside hx ?_
  rw [(hcopied t htfb _ _).2, (hcopied s hs.fb _ _).2, hfb,
    scrolled_congr hc.tmpW hc.tmpH htmp]

theorem redrawBackground_bitmapsSized (hc : s.cfg.Sound) (h : s.BitmapsSized) (g : Gfx) :
    (s.redrawBackground g).BitmapsSized where
  tmp := blitAll_sized _ g .none _ h.tmp hc.tmpClip_inside hc.tmpW
  fb := h.fb

/-- Nothing that describes the picture but `tmp` and `fb` sees the marks: marking every cell first changes no pixel of a
frame, for both backgrounds show every cell (20_memory R81). -/
theorem drawFrame_markAllDirty_agrees {g : Gfx} (h : s.Inv) (hcur : s.BackgroundCurrent g) :
    (∀ x y, x < s.cfg.geometry.fbW → (s.drawFrame g).fb.get x y = (s.markAllDirty.drawFrame g).fb.get x y) ∧
      ∀ x y, x < s.cfg.geometry.tmpW → y < s.cfg.geometry.tmpH →
        (s.drawFrame g).tmp.get x y = (s.markAllDirty.drawFrame g).tmp.get x y := by
  have hincremental := fun n (hn : n < s.cfg.geometry.vramSize) =>
    redrawn_shows h.configuration h.bitmaps.tmp h.dirty hcur hn
  have hfull := fun n (hn : n < s.cfg.geometry.vramSize) =>
    redrawn_shows (s := s.markAllDirty) h.configuration h.bitmaps.tmp s.markAllDirty_dirtySound
      (backgroundCurrent_of_all_marked (g := g) fun _ => List.mem_range.2) hn
  have htmp : ∀ x y, x < s.cfg.geometry.tmpW → y < s.cfg.geometry.tmpH →
      (s.drawFrame g).tmp.get x y = (s.markAllDirty.drawFrame g).tmp.get x y :=
    fun _ _ hx hy => get_eq_of_shownBy hincremental hfull hx hy
  refine ⟨fun x y hx => ?_, htmp⟩
  exact composeFrame_congr (s := s.markAllDirty.redrawBackground g) h.configuration
    (redrawBackground_bitmapsSized (s := s.markAllDirty) h.configuration { h.bitmaps with } g)
    (redrawBackground_bitmapsSized h.configuration h.bitmaps g) rfl rfl rfl htmp hx rfl

end State

end Sys2Proof.Machine

namespace Sys2Proof.Proofs

open Sys2Proof Sys2Proof.Machine

/-- Settles O55: with video off both refreshes blank the same picture; with video on they differ in the marks alone. -/
theorem fullAndIncrementalRefreshAgree : Obligations.FullAndIncrementalRefreshAgree := by
  intro s t u h hcur ht hu
  obtain ⟨-, rfl⟩ := (exec_next_iff _ s t).1 ht
  obtain ⟨-, rfl⟩ := (exec_next_iff _ s u).1 hu
  simp only [effect, State.screenRefresh]
  cases s.videoEnabled with
  | false => exact ⟨fun _ _ _ _ => rfl, fun _ _ _ _ => rfl⟩
  | true =>
    obtain ⟨hfb, htmp⟩ := State.drawFrame_markAllDirty_agrees h hcur
    exact ⟨fun x y hx _ => hfb x y hx, htmp⟩

end Sys2Proof.Proofs
end

section
/-! PROOFS. The decoder against the opcode table and the encoder (30_encoding R91, R92, R100, R105): what it answers to
a word is said once, with one row of the table, and each statement about the encoding is read off from that answer. -/
namespace Sys2Proof

open Sys2Proof.Laws

/-! ## The rows of the opcode table -/

/-- Three fields and no more: words are the same when their fields are (30_encoding R91). -/
theorem packWord_inj {op op' : Byte} {a a' : Offset} {d d' : Byte} :
    packWord op a d = packWord op' a' d' ↔ op = op' ∧ a = a' ∧ d = d' := by
  refine ⟨fun h => ⟨?op, ?a, ?d⟩, fun ⟨hop, ha, hd⟩ => by rw [hop, ha, hd]⟩
  case op => simpa using congrArg opField h
  case a => simpa using congrArg aField h
  case d => simpa using congrArg dField h

theorem and_0xFF (d : Byte) : d &&& 0xFF = d := BitVec.and_allOnes

theorem and_0xFFFF (a : Offset) : a &&& 0xFFFF = a := BitVec.and_allOnes

/-- A word of three fields under a mask that leaves `OP` whole meets a match that has no other field. -/
theorem packWord_and_eq_iff (op : Byte) (a ma : Offset) (d md : Byte) :
    packWord op a d &&& packWord 0xFF ma md = packWord op 0 0 ↔ a &&& ma = 0 ∧ d &&& md = 0 := by
  rw [EncodesRow.packWord_and, packWord_inj, and_0xFF]
  exact and_iff_right rfl

/-- Every row's mask takes the whole of `OP` (30_encoding R92). -/
theorem opField_mask : ∀ row ∈ opcodeTable, opField row.mask = 0xFF := by decide

/-- No two rows of the opcode table have one `OP` (30_encoding R100). -/
theorem opcodes_nodup : (opcodeTable.map fun row => opField row.pattern).Nodup := by decide

theorem row_eq_of_opField_eq {row row' : OpcodeRow} (h : row ∈ opcodeTable) (h' : row' ∈ opcodeTable)
    (heq : opField row.pattern = opField row'.pattern) : row = row' :=
  List.inj_on_of_nodup_map opcodes_nodup h h' heq

/-- A word has the `OP` of the row it matches. -/
theorem opField_pattern_of_matches {w : Word} {row : OpcodeRow} (h : row ∈ opcodeTable)
    (hm : w &&& row.mask = row.pattern) : opField row.pattern = opField w :=
  calc opField row.pattern = opField (w &&& row.mask) := by rw [hm]
    _ = opField w &&& opField row.mask := BitVec.extractLsb'_and
    _ = opField w := by rw [opField_mask row h, and_0xFF]

/-! ## What the decoder answers, by the row of the word -/

/-- The three answers to a word: the operation of the row it matches, which keeps every bit of the word; a refusal of a
field, where a row has its `OP` but the word does not match it; a refusal of its `OP`, which no row has. -/
inductive DecoderAnswer (w : Word) : Except DecodeError Instr → Prop where
  | matched {row : OpcodeRow} {i : Instr} (hrow : row ∈ opcodeTable) (hm : w &&& row.mask = row.pattern)
      (hname : row.mnemonic = i.mnemonic) (henc : encode i = w) : DecoderAnswer w (.ok i)
  | misfit {row : OpcodeRow} (hrow : row ∈ opcodeTable) (hop : opField row.pattern = opField w)
      (hm : w &&& row.mask ≠ row.pattern) : DecoderAnswer w (.error (.nonzeroField (opField w)))
  | unknown (hop : ∀ row ∈ opcodeTable, opField row.pattern ≠ opField w) :
      DecoderAnswer w (.error (.unknownOpcode (opField w)))

/-- A format whose condition `P` on the fields is the row's mask and match, and whose operation keeps the fields where
the condition holds, gives one of the two answers of a row. -/
theorem DecoderAnswer.of_format {op : Byte} {a : Offset} {d : Byte} {P : Prop} [Decidable P] {i : Instr} {name : String}
    {mask : Word} (hrow : ⟨name, packWord op 0 0, mask⟩ ∈ opcodeTable)
    (hfit : packWord op a d &&& mask = packWord op 0 0 ↔ P) (hname : i.mnemonic = name)
    (henc : P → encode i = packWord op a d) :
    DecoderAnswer (packWord op a d) (if P then .ok i else .error (.nonzeroField op)) := by
  by_cases hP : P
  · rw [if_pos hP]
    exact .matched hrow (hfit.2 hP) hname.symm (henc hP)
  · rw [if_neg hP]
    have hanswer := DecoderAnswer.misfit hrow (w := packWord op a d) (by simp) (mt hfit.1 hP)
    rwa [opField_packWord] at hanswer

/-- The bits of a data byte above its flag are those that the mask of the format `F_B` takes. -/
theorem and_0xFE_eq_zero_iff : ∀ d : Byte, d &&& 0xFE = 0 ↔ d.extractLsb' 1 7 = 0 := by decide

/-- A data byte with no bit above its flag is the flag. -/
theorem flag_eq_of_high_zero : ∀ d : Byte, d.extractLsb' 1 7 = 0 → (if d.getLsbD 0 then 1 else 0) = d := by decide

section

variable {n : Nat} {op : Byte} (hn : op.toNat = n) (a : Offset) (d : Byte) {name : String}
include hn

/-- An `OP` given by its number. -/
theorem eq_ofNat_of_toNat : op = BitVec.ofNat 8 n := by
  rw [← hn, BitVec.ofNat_toNat, BitVec.setWidth_eq]

/-! The six formats (30_encoding R92), for an operation whose word has its operands in the fields of the format. -/

theorem readAD_answer {k : Offset → Byte → Instr} (hk : ∀ a d, encode (k a d) = packWord (BitVec.ofNat 8 n) a d)
    (hname : ∀ a d, (k a d).mnemonic = name) (hrow : ⟨name, packWord (BitVec.ofNat 8 n) 0 0, maskAD⟩ ∈ opcodeTable) :
    DecoderAnswer (packWord op a d) (readAD op a d k) := by
  obtain rfl := eq_ofNat_of_toNat hn
  exact .matched hrow ((packWord_and_eq_iff _ a 0 d 0).2 ⟨BitVec.and_zero, BitVec.and_zero⟩) (hname a d).symm (hk a d)

theorem readA_answer {k : Offset → Instr} (hk : ∀ a, encode (k a) = packWord (BitVec.ofNat 8 n) a 0)
    (hname : ∀ a, (k a).mnemonic = name) (hrow : ⟨name, packWord (BitVec.ofNat 8 n) 0 0, maskA⟩ ∈ opcodeTable) :
    DecoderAnswer (packWord op a d) (readA op a d k) := by
  obtain rfl := eq_ofNat_of_toNat hn
  refine .of_format hrow ((packWord_and_eq_iff _ a 0 d 0xFF).trans ?_) (hname a) fun hd => (hk a).trans (by rw [hd])
  rw [and_0xFF]
  exact and_iff_right BitVec.and_zero

theorem readD_answer {k : Byte → Instr} (hk : ∀ d, encode (k d) = packWord (BitVec.ofNat 8 n) 0 d)
    (hname : ∀ d, (k d).mnemonic = name) (hrow : ⟨name, packWord (BitVec.ofNat 8 n) 0 0, maskD⟩ ∈ opcodeTable) :
    DecoderAnswer (packWord op a d) (readD op a d k) := by
  obtain rfl := eq_ofNat_of_toNat hn
  refine .of_format hrow ((packWord_and_eq_iff _ a 0xFFFF d 0).trans ?_) (hname d) fun ha => (hk d).trans (by rw [ha])
  rw [and_0xFFFF]
  exact and_iff_left BitVec.and_zero

theorem readZ_answer {i : Instr} (hi : encode i = packWord (BitVec.ofNat 8 n) 0 0) (hname : i.mnemonic = name)
    (hrow : ⟨name, packWord (BitVec.ofNat 8 n) 0 0, maskZ⟩ ∈ opcodeTable) :
    DecoderAnswer (packWord op a d) (readZ op a d i) := by
  obtain rfl := eq_ofNat_of_toNat hn
  refine .of_format hrow ((packWord_and_eq_iff _ a 0xFFFF d 0xFF).trans ?_) hname fun ⟨ha, hd⟩ => by rw [hi, ha, hd]
  rw [and_0xFFFF, and_0xFF]

/-- The strobes that ignore their data byte have the mask of the format `F_D` and keep the byte (log 18). -/
theorem readX_answer {k : Byte → Instr} (hk : ∀ d, encode (k d) = packWord (BitVec.ofNat 8 n) 0 d)
    (hname : ∀ d, (k d).mnemonic = name) (hrow : ⟨name, packWord (BitVec.ofNat 8 n) 0 0, maskX⟩ ∈ opcodeTable) :
    DecoderAnswer (packWord op a d) (readX op a d k) :=
  readD_answer hn a d hk hname hrow

theorem readB_answer {k : Bool → Instr} (hk : ∀ f, encode (k f) = packWord (BitVec.ofNat 8 n) 0 (if f then 1 else 0))
    (hname : ∀ f, (k f).mnemonic = name) (hrow : ⟨name, packWord (BitVec.ofNat 8 n) 0 0, maskB⟩ ∈ opcodeTable) :
    DecoderAnswer (packWord op a d) (readB op a d k) := by
  obtain rfl := eq_ofNat_of_toNat hn
  refine .of_format hrow ((packWord_and_eq_iff _ a 0xFFFF d 0xFE).trans ?_) (hname _) fun ⟨ha, hd⟩ => ?_
  · rw [and_0xFFFF, and_0xFE_eq_zero_iff]
  · rw [hk, ha, flag_eq_of_high_zero d hd]

end

/-- The arms of the opcode map, numbered in its order, by their format; the last is every `OP` it does not list. -/
theorem decodeFields_answer (op : Byte) (a : Offset) (d : Byte) :
    DecoderAnswer (packWord op a d) (decodeFields op a d) := by
  unfold decodeFields
  split
  case h_2 hn | h_4 hn | h_6 hn | h_23 hn | h_25 hn | h_27 hn | h_29 hn | h_31 hn | h_40 hn | h_42 hn =>
    exact readAD_answer hn a d (fun _ _ => rfl) (fun _ _ => rfl) (by decide)
  case h_1 hn | h_3 hn | h_5 hn | h_9 hn | h_22 hn | h_24 hn | h_26 hn | h_28 hn | h_30 hn =>
    exact readA_answer hn a d (fun _ => rfl) (fun _ => rfl) (by decide)
  case h_7 hn | h_8 hn | h_10 hn | h_16 hn | h_17 hn | h_19 hn | h_20 hn | h_32 hn | h_33 hn | h_34 hn | h_35 hn
      | h_36 hn | h_37 hn =>
    exact readD_answer hn a d (fun _ => rfl) (fun _ => rfl) (by decide)
  case h_11 hn | h_15 hn | h_18 hn | h_21 hn | h_39 hn | h_41 hn =>
    exact readZ_answer hn a d rfl rfl (by decide)
  case h_12 hn | h_13 hn | h_14 hn =>
    exact readX_answer hn a d (fun _ => rfl) (fun _ => rfl) (by decide)
  case h_38 hn =>
    exact readB_answer hn a d (fun _ => rfl) (fun _ => rfl) (by decide)
  case h_43 =>
    have hop : ∀ row ∈ opcodeTable, op ≠ opField row.pattern := by
      simp only [opcodeTable, List.mem_cons, List.not_mem_nil, or_false, forall_eq_or_imp, forall_eq, opField, ne_eq,
        ← BitVec.toNat_inj, BitVec.reduceExtractLsb', BitVec.reduceToNat]
      and_intros <;> assumption
    have hanswer := DecoderAnswer.unknown (w := packWord op a d) fun row hrow => by simpa using (hop row hrow).symm
    rwa [opField_packWord] at hanswer

/-- What the decoder answers to a word (30_encoding R92, R100, R105 (a), (b)). -/
theorem decode_answer (w : Word) : DecoderAnswer w (decode w) := by
  have hanswer := decodeFields_answer (opField w) (aField w) (dField w)
  rwa [packWord_fields] at hanswer

/-- The row of a decoded word, whose name the operation has and whose word it is. -/
theorem decode_eq_ok {w : Word} {i : Instr} (h : decode w = .ok i) :
    ∃ row ∈ opcodeTable, w &&& row.mask = row.pattern ∧ row.mnemonic = i.mnemonic ∧ encode i = w := by
  have hanswer := decode_answer w
  rw [h] at hanswer
  cases hanswer with
  | matched hrow hm hname henc => exact ⟨_, hrow, hm, hname, henc⟩

/-- A word that matches a row is an operation. -/
theorem exists_decode_of_matches {w : Word} {row : OpcodeRow} (hrow : row ∈ opcodeTable)
    (hm : w &&& row.mask = row.pattern) : ∃ i, decode w = .ok i := by
  have hop := opField_pattern_of_matches hrow hm
  have hanswer := decode_answer w
  generalize decode w = r at hanswer ⊢
  cases hanswer with
  | matched => exact ⟨_, rfl⟩
  | misfit hrow' hop' hm' =>
    obtain rfl := row_eq_of_opField_eq hrow hrow' (hop.trans hop'.symm)
    exact absurd hm hm'
  | unknown hop' => exact absurd hop (hop' row hrow)

/-- An `OP` that no row has is refused as unknown (30_encoding R105 (a)). -/
theorem decode_of_no_row {w : Word} (h : ∀ row ∈ opcodeTable, opField row.pattern ≠ opField w) :
    decode w = .error (.unknownOpcode (opField w)) := by
  have hanswer := decode_answer w
  generalize decode w = r at hanswer ⊢
  cases hanswer with
  | matched hrow hm => exact absurd (opField_pattern_of_matches hrow hm) (h _ hrow)
  | misfit hrow hop => exact absurd hop (h _ hrow)
  | unknown => rfl

/-- A word that has the `OP` of a row and does not match it is refused for a field (30_encoding R105 (b)). -/
theorem decode_of_misfit {w : Word} {row : OpcodeRow} (hrow : row ∈ opcodeTable)
    (hop : opField row.pattern = opField w) (hm : w &&& row.mask ≠ row.pattern) :
    decode w = .error (.nonzeroField (opField w)) := by
  have hanswer := decode_answer w
  generalize decode w = r at hanswer ⊢
  cases hanswer with
  | matched hrow' hm' =>
    obtain rfl := row_eq_of_opField_eq hrow hrow' (hop.trans (opField_pattern_of_matches hrow' hm').symm)
    exact absurd hm' hm
  | misfit => rfl
  | unknown hop' => exact absurd hop (hop' row hrow)

/-! ## The encoder's words -/

/-- Every operation is read back from its word: the fields of the word are those its arm of the opcode map reads. -/
theorem decode_encode (i : Instr) : decode (encode i) = .ok i := by
  cases i with
  | screenRefresh full => cases full <;> exact decode_packWord _ _ _
  | _ => exact decode_packWord _ _ _

end Sys2Proof

namespace Sys2Proof.Machine

open Sys2Proof

/-- The next transaction, when its word is no operation, is refused with the decoder's reason. -/
theorem step_of_decode_error {s : State} {t : Transaction} {rest : List Transaction} {e : DecodeError}
    (hs : s.script = t :: rest) (hd : decode t.word = .error e) : step s = .refused (.badWord e) := by
  simp only [step, hs, hd]

end Sys2Proof.Machine

namespace Sys2Proof.Proofs

open Sys2Proof Sys2Proof.Machine

/-- Settles O1: the bytes of an operation are those of its word, and what follows them is left. -/
theorem decodeOfEncodeIsTheOperation : Obligations.DecodeOfEncodeIsTheOperation := by
  refine fun i => ⟨decode_encode i, fun rest => ?_⟩
  rw [encodeBytes, decodeBytes_bytesOfWord, decode_encode]

/-- Settles O2: the operation of the row a word matches has that word. -/
theorem encodeOfDecodeIsTheWord : Obligations.EncodeOfDecodeIsTheWord := by
  intro w i h
  obtain ⟨_, _, _, _, henc⟩ := decode_eq_ok h
  exact henc

/-- Settles O3: the row of a decoded word is the only one it matches, for no two rows have one `OP`. -/
theorem decoderAcceptsExactlyTheOpcodeTable : Obligations.DecoderAcceptsExactlyTheOpcodeTable := by
  refine ⟨fun w => ⟨fun ⟨i, h⟩ => ?decoded, fun ⟨row, hrow, hm⟩ => exists_decode_of_matches hrow hm⟩, ?named⟩
  case decoded =>
    obtain ⟨row, hrow, hm, _, _⟩ := decode_eq_ok h
    exact ⟨row, hrow, hm⟩
  case named =>
    intro w i row h hrow hm
    obtain ⟨row', hrow', hm', hname, _⟩ := decode_eq_ok h
    have hop := (opField_pattern_of_matches hrow hm).trans (opField_pattern_of_matches hrow' hm').symm
    rwa [row_eq_of_opField_eq hrow hrow' hop]

/-- Settles O6: both refusals are the decoder's, and the step names them. -/
theorem stepRefusesWordsOutsideTheMap : Obligations.StepRefusesWordsOutsideTheMap := by
  intro s t rest hs
  refine ⟨fun h => ?unknown, fun row hrow hop hm => ?misfit⟩
  case unknown => exact step_of_decode_error hs (decode_of_no_row fun row hrow heq => h row hrow heq.symm)
  case misfit => exact step_of_decode_error hs (decode_of_misfit hrow hop.symm hm)

/-- Settles O4: eight of the words are those of the operations named, and the decoder refuses the other two. -/
theorem wordsOfTheSpecDecode : Obligations.WordsOfTheSpecDecode :=
  ⟨decode_encode (.sndcmdWr 0x5A), decode_encode (.sr2Wr 0x334 0xFF), decode_encode (.mcuPbWr 0x12),
    decode_encode (.screenRefresh true), decode_encode (.bankWr 0x03), decode_encode (.vramWr 0x41 0x7E),
    decode_encode (.nopWr 0xFA80 0x00), decode_encode (.envInport 2 0x7F), by decide, by decide⟩

end Sys2Proof.Proofs
end

section
/-! PROOFS. The operations on shared memory: what makes a rule about one operation hold, and the check of the operations
that both CPUs have (40_shared_memory R121 to R126). -/
namespace Sys2Proof.Machine

open Sys2Proof

/-- What `exec` refuses: every request that is not well-formed (60_exceptions R245). -/
theorem exec_refused_iff (i : Instr) (s : State) :
    (∃ r, exec i s = .refused r) ↔ ¬i.WellFormed s.cfg s.agent = true := by
  rw [exec_perform, State.perform, ← State.refusal_none_iff]
  cases s.refusal i <;> simp

end Sys2Proof.Machine

namespace Sys2Proof.Proofs

open Sys2Proof Sys2Proof.Machine Sys2Proof.Claims

/-- A rule about one operation: its word is the encoder's, it is admitted where it is well-formed, and its result is what
its effect leaves. -/
theorem operation_intro {i : Instr} {w : Word} {admitted : State → Prop} {result : State → State → Prop}
    (hword : encode i = w) (hadmitted : ∀ s, i.WellFormed s.cfg s.agent = true ↔ admitted s)
    (hresult : ∀ s, admitted s → result s (effect i s)) : Operation i w admitted result := by
  refine ⟨hword ▸ decode_encode i, fun s h => ?admitted, fun s h => ?refused⟩
  case admitted => exact ⟨effect i s, (exec_next_iff i s _).2 ⟨(hadmitted s).2 h, rfl⟩, hresult s h⟩
  case refused => exact (exec_refused_iff i s).2 (mt (hadmitted s).1 h)

/-! ## The operations of the two CPUs (60_exceptions R262) -/

/-- An operation that both CPUs are wired to is well-formed where it exists, from a CPU, inside its space. -/
theorem wellFormed_iff_of_cpuIssued {i : Instr} (hissuers : i.issuers = [.main, .sub]) (s : State) :
    i.WellFormed s.cfg s.agent = true ↔ i.existsOn s.cfg = true ∧ FromCpu s ∧ i.inRange s.cfg = true := by
  simp [Instr.WellFormed, hissuers, and_assoc]

/-- The rule of an operation that both CPUs have on a space of `size` cells. -/
theorem operation_of_cpuIssued {i : Instr} {w : Word} {off : Offset} {size : State → Nat}
    {result : State → State → Prop} (hword : encode i = w) (hissuers : i.issuers = [.main, .sub])
    (hrange : ∀ s, i.inRange s.cfg = decide (off.toNat < size s)) (hresult : ∀ s, result s (effect i s)) :
    Operation i w (fun s => i.existsOn s.cfg = true ∧ FromCpu s ∧ off.toNat < size s) result := by
  refine operation_intro hword (fun s => ?_) fun s _ => hresult s
  rw [wellFormed_iff_of_cpuIssued hissuers, hrange, decide_eq_true_iff]

/-- A write to a space stores its byte at its offset alone. -/
theorem stored_write {w : Nat} (m : Memory w) (a : Nat) (v : BitVec w) : Stored m (m.write a v) a v :=
  ⟨Memory.read_write_same m a v, fun _ hb => Memory.read_write_other m v hb⟩

/-! ## The three spaces -/

/-- Settles O13: the effect of the read is its reply alone, that of the write its stored byte alone. -/
theorem sharedRam1Operations : Obligations.SharedRam1Operations := by
  refine fun off v => ⟨?read, ?write⟩
  case read => exact operation_of_cpuIssued rfl rfl (fun _ => rfl) fun _ => rfl
  case write => exact operation_of_cpuIssued rfl rfl (fun _ => rfl) fun _ => ⟨stored_write _ _ _, rfl⟩

/-- Settles O14, as `sharedRam1Operations`: the window is that of the board's row of the configuration table (00_scope R9). -/
theorem sharedRam2Operations : Obligations.SharedRam2Operations := by
  refine ⟨fun s => ⟨?fullWindow, ?bootlegWindow⟩, fun off v => ⟨?read, ?write⟩⟩
  case fullWindow =>
    rintro (⟨_, hrow⟩ | ⟨_, hrow⟩) <;> exact congrArg BoardParams.sr2CpuWindow hrow
  case bootlegWindow =>
    rintro ⟨_, hrow⟩
    exact congrArg BoardParams.sr2CpuWindow hrow
  case read => exact operation_of_cpuIssued rfl rfl (fun _ => rfl) fun _ => rfl
  case write => exact operation_of_cpuIssued rfl rfl (fun _ => rfl) fun _ => ⟨stored_write _ _ _, rfl⟩

/-- Settles O15, as `sharedRam1Operations`, for the one space of the boards with `HAS_SHR`. -/
theorem kyugoSharedRamOperations : Obligations.KyugoSharedRamOperations := by
  refine fun off v => ⟨?read, ?write⟩
  case read => exact operation_of_cpuIssued rfl rfl (fun _ => rfl) fun _ => rfl
  case write => exact operation_of_cpuIssued rfl rfl (fun _ => rfl) fun _ => ⟨stored_write _ _ _, rfl⟩

end Sys2Proof.Proofs
end

section
/-! PROOFS. The bank register, the ROM window and the flip-screen registers (41_bank_switch R131 to R134,
44_video_ram_and_registers R204): the flag a mask names, the check of the operations that the main CPU alone has, and
what the shared flip leaves. -/
namespace Sys2Proof.Machine

open Sys2Proof

/-! ## The fields of a register's byte -/

/-- The test of a mask of one bit is that bit. -/
theorem decide_and_twoPow_ne_zero {w i : Nat} (v : BitVec w) (hi : i < w) :
    decide (v &&& BitVec.twoPow w i ≠ 0) = v.getLsbD i := by
  have hbit : BitVec.twoPow w i ≠ 0 := fun h => by simpa [hi] using congrArg (BitVec.getLsbD · i) h
  rw [BitVec.and_twoPow]
  cases v.getLsbD i with
  | true => exact decide_eq_true hbit
  | false => exact decide_eq_false (not_not_intro rfl)

/-- The decoded bank as R131 writes it. -/
theorem decodedBank_eq (c : Cfg) (v : Byte) : decodedBank c v = ((v ^^^ c.xorMask) &&& 7).setWidth 3 := by
  apply BitVec.eq_of_toNat_eq
  have hmask : ((v ^^^ c.xorMask) &&& 7).toNat = (v ^^^ c.xorMask).toNat % 2 ^ 3 := by
    rw [BitVec.toNat_and]
    exact Nat.and_two_pow_sub_one_eq_mod _ 3
  rw [decodedBank, BitVec.extractLsb'_toNat, BitVec.toNat_setWidth, hmask, Nat.mod_mod, Nat.shiftRight_zero]

/-- The mask leaves three bits, so that the bank register holds the whole of the decoded value. -/
theorem decodedBank_toNat (c : Cfg) (v : Byte) : (decodedBank c v).toNat = ((v ^^^ c.xorMask) &&& 7).toNat := by
  have hlt : ((v ^^^ c.xorMask) &&& 7).toNat < 2 ^ 3 := by
    rw [BitVec.toNat_and]
    exact Nat.and_lt_two_pow _ (by decide)
  rw [decodedBank_eq, BitVec.toNat_setWidth, Nat.mod_eq_of_lt hlt]

/-! ## What `BANK_WR` leaves (41_bank_switch R131) -/

/-- The bank and the video enable that `BANK_WR` leaves, before its flip. -/
def State.bankDecoded (s : State) (v : Byte) : State :=
  { s with
    bankIndex := ((v ^^^ s.cfg.xorMask) &&& 7).setWidth 3
    videoEnable := if s.cfg.veMask ≠ 0 then decide (v &&& s.cfg.veMask ≠ 0) else s.videoEnable }

theorem effect_bankWr (v : Byte) (s : State) : effect (.bankWr v) s = (s.bankDecoded v).bankFlip v := by
  simp only [effect, State.bankVideo_eq, decodedBank_eq]
  rfl

theorem bankWr_of_no_flipMask {s : State} (h : s.cfg.bankFlipMask = 0) (v : Byte) :
    effect (.bankWr v) s = s.bankDecoded v := by
  rw [effect_bankWr, State.bankFlip_eq]
  exact if_pos h

theorem bankWr_of_flipMask {s : State} (h : s.cfg.bankFlipMask ≠ 0) (v : Byte) :
    effect (.bankWr v) s = (s.bankDecoded v).setFlip (decide (v &&& s.cfg.bankFlipMask ≠ 0)) := by
  rw [effect_bankWr, State.bankFlip_eq]
  exact if_neg h

theorem bankWr_bankIndex (v : Byte) (s : State) : (effect (.bankWr v) s).bankIndex = decodedBank s.cfg v := by
  rw [effect_eq_effectUpdate]
  rfl

theorem bankWr_agent (v : Byte) (s : State) : (effect (.bankWr v) s).agent = s.agent := by
  rw [effect_eq_effectUpdate]
  rfl

/-- Marking asks for a repaint in variant S alone (10_state R41). -/
theorem State.repaintOnMark_eq (s : State) :
    s.repaintOnMark = if s.cfg.variant = .s then true else s.repaint := by
  unfold State.repaintOnMark
  cases s.cfg.variant <;> rfl

end Sys2Proof.Machine

namespace Sys2Proof.Proofs

open Sys2Proof Sys2Proof.Machine Sys2Proof.Claims

/-- The shared flip does what each register that flips the screen must do (44_video_ram_and_registers R204). -/
theorem flipWritten_setFlip (s : State) (b : Bool) : FlipWritten s (s.setFlip b) b := by
  rw [FlipWritten, State.setFlip_eq, State.repaintOnMark_eq, ite_and]
  rfl

/-! ## The operations of the main CPU (60_exceptions R262) -/

/-- An operation that the main CPU alone is wired to is well-formed where it exists, from that CPU, inside its space. -/
theorem wellFormed_iff_of_mainIssued {i : Instr} (hissuers : i.issuers = [.main]) (s : State) :
    i.WellFormed s.cfg s.agent = true ↔ i.existsOn s.cfg = true ∧ s.agent = .main ∧ i.inRange s.cfg = true := by
  simp [Instr.WellFormed, hissuers, and_assoc]

/-- The rule of a register that the main CPU alone writes: no operand of it can be out of range. -/
theorem operation_of_mainRegister {i : Instr} {w : Word} {result : State → State → Prop} (hword : encode i = w)
    (hissuers : i.issuers = [.main]) (hrange : ∀ c, i.inRange c = true) (hresult : ∀ s, result s (effect i s)) :
    Operation i w (fun s => i.existsOn s.cfg = true ∧ s.agent = .main) result := by
  refine operation_intro hword (fun s => ?_) fun s _ => hresult s
  rw [wellFormed_iff_of_mainIssued hissuers, and_iff_left (hrange s.cfg)]

/-! ## The boards that lack an operation (30_encoding R105) -/

theorem exec_refused_of_not_onBoard {s : State} {b : Board} {fitted : Bool} {i : Instr}
    (hrow : s.cfg.toBoardParams = BoardParams.standard b fitted) (hlacks : ¬OnBoard b fitted i) :
    ∃ r, exec i s = .refused r :=
  (exec_refused_iff i s).2 fun hw => hlacks ((i.existsOn_iff_onBoard hrow).1 (wellFormed_existsOn hw))

/-- An operation that the opcode map gives to one board is refused on the others. -/
theorem onlyOn_of_onBoard_iff {i : Instr} {b : Board} (h : ∀ b' fitted, OnBoard b' fitted i ↔ b' = b) : OnlyOn i b := by
  refine fun s => ⟨fun ⟨fitted, hrow⟩ => ?has, fun b' ⟨fitted, hrow⟩ hne => ?lacks⟩
  case has => exact (i.existsOn_iff_onBoard hrow).2 ((h b fitted).2 rfl)
  case lacks => exact exec_refused_of_not_onBoard hrow (mt (h b' fitted).1 hne)

/-! ## The masks of each board's row (00_scope R9) -/

theorem bankMasks_of_tokio {s : State} (h : OfBoard s .tokio) :
    s.cfg.xorMask = 0 ∧ s.cfg.veMask = 0 ∧ s.cfg.bankFlipMask = 0 := by
  obtain ⟨_, hrow⟩ := h
  rw [hrow]
  exact ⟨rfl, rfl, rfl⟩

theorem bankMasks_of_bublbobl_or_bootleg {s : State} (h : OfBoard s .bublbobl ∨ OfBoard s .bootleg) :
    s.cfg.xorMask = 4 ∧ s.cfg.veMask = BitVec.twoPow 8 6 ∧ s.cfg.bankFlipMask = BitVec.twoPow 8 7 := by
  obtain ⟨_, hrow⟩ | ⟨_, hrow⟩ := h <;>
  · rw [hrow]
    exact ⟨rfl, rfl, rfl⟩

theorem vidctrlFlipMask_of_tokio {s : State} (h : OfBoard s .tokio) : s.cfg.vidctrlFlipMask = BitVec.twoPow 8 7 := by
  obtain ⟨_, hrow⟩ := h
  rw [hrow]
  rfl

/-! ## The state after `BANK_WR`, board by board -/

theorem bankDecoded_of_tokio {s : State} (h : OfBoard s .tokio) (v : Byte) :
    s.bankDecoded v = { s with bankIndex := (v &&& 7).setWidth 3 } := by
  obtain ⟨hxor, hve, -⟩ := bankMasks_of_tokio h
  have hself : v ^^^ (0 : Byte) = v := BitVec.xor_zero
  rw [State.bankDecoded, hxor, hself, if_neg (not_not_intro hve)]

theorem bankDecoded_of_bublbobl_or_bootleg {s : State} (h : OfBoard s .bublbobl ∨ OfBoard s .bootleg) (v : Byte) :
    s.bankDecoded v = { s with bankIndex := ((v ^^^ 4) &&& 7).setWidth 3, videoEnable := v.getLsbD 6 } := by
  obtain ⟨hxor, hve, -⟩ := bankMasks_of_bublbobl_or_bootleg h
  rw [State.bankDecoded, hxor, hve, if_pos (by decide), decide_and_twoPow_ne_zero v (by decide)]

/-- Settles O17: the decode, then a flip where the mask names a bit; the masks of each board's row say what that is
there. -/
theorem bankRegisterWrite : Obligations.BankRegisterWrite := by
  refine fun v => ⟨operation_of_mainRegister rfl rfl (fun _ => rfl) fun s => ?effect, ?kyugo⟩
  case effect =>
    have hflip (hmask : s.cfg.bankFlipMask ≠ 0) :
        FlipWritten (s.bankDecoded v) (effect (.bankWr v) s) (decide (v &&& s.cfg.bankFlipMask ≠ 0)) := by
      rw [bankWr_of_flipMask hmask]
      exact flipWritten_setFlip _ _
    refine ⟨s.bankDecoded v, rfl, fun hmask => bankWr_of_no_flipMask hmask v, hflip, fun h => ?tokio,
      fun h => ⟨bankDecoded_of_bublbobl_or_bootleg h v, ?flip⟩⟩
    case tokio =>
      obtain ⟨-, -, hmask⟩ := bankMasks_of_tokio h
      rw [bankWr_of_no_flipMask hmask, bankDecoded_of_tokio h]
    case flip =>
      obtain ⟨-, -, hmask⟩ := bankMasks_of_bublbobl_or_bootleg h
      rw [← decide_and_twoPow_ne_zero v (by decide), ← hmask]
      exact hflip (by rw [hmask]; decide)
  case kyugo =>
    rintro s ⟨fitted, hrow⟩
    exact exec_refused_of_not_onBoard hrow (by simp [OnBoard])

/-- Settles O18: the write leaves the decoded bank in the register and keeps the board and the agent, so that the next
read is admitted and takes its byte from that bank. -/
theorem bankDecodeLaw : Obligations.BankDecodeLaw := by
  refine ⟨fun s v hbank hmain => ?law, by decide, by decide⟩
  have hindex : (effect (.bankWr v) s).bankIndex.toNat = ((v ^^^ s.cfg.xorMask) &&& 7).toNat := by
    rw [bankWr_bankIndex, decodedBank_toNat]
  refine ⟨effect (.bankWr v) s, (exec_next_iff _ s _).2 ⟨?write, rfl⟩, hindex, fun off hoff =>
    (exec_next_iff _ _ _).2 ⟨?read, ?byte⟩⟩
  case write => exact (wellFormed_iff_of_mainIssued rfl s).2 ⟨hbank, hmain, rfl⟩
  case read =>
    rw [effect_cfg, bankWr_agent]
    exact (wellFormed_iff_of_mainIssued rfl s).2 ⟨hbank, hmain, decide_eq_true hoff⟩
  case byte =>
    rw [← hindex, ← effect_cfg (.bankWr v) s]
    rfl

/-- Settles O19: both registers are the shared flip, from the bit their rule names. -/
theorem flipScreenRegisterWrites : Obligations.FlipScreenRegisterWrites := by
  refine fun v => ⟨operation_of_mainRegister rfl rfl (fun _ => rfl) fun s => ⟨flipWritten_setFlip s _, fun h => ?tokio⟩,
    onlyOn_of_onBoard_iff fun _ _ => Iff.rfl,
    operation_of_mainRegister rfl rfl (fun _ => rfl) fun s => flipWritten_setFlip s _,
    onlyOn_of_onBoard_iff fun _ _ => Iff.rfl⟩
  rw [← decide_and_twoPow_ne_zero v (by decide), ← vidctrlFlipMask_of_tokio h]
  exact flipWritten_setFlip s _

/-- Settles O20: the reply is the byte at the window's index, which the range check keeps inside `rom`. -/
theorem romWindowRead : Obligations.RomWindowRead := by
  refine fun off => operation_intro rfl (fun s => ?admitted) fun s ⟨_, _, hoff⟩ => ⟨rfl, s.romIndex_lt hoff⟩
  exact (wellFormed_iff_of_mainIssued rfl s).trans
    (and_congr_right' (and_congr_right' decide_eq_true_iff))

end Sys2Proof.Proofs
end

section
/-! PROOFS. The sound latch and the second CPU's NMI trigger (42_sound_latch R141 to R146): what the NMI-assert event of a
command leaves, and the check of the operations that one agent alone has. -/
namespace Sys2Proof.Machine

open Sys2Proof

/-- A command is stored, and its NMI-assert event either pulses the line or is left pending (R141, R142). -/
theorem effect_sndcmdWr (v : Byte) (s : State) :
    effect (.sndcmdWr v) s =
      { s with
        sndCmd := v
        nmiPending := if s.nmiEnabled then s.nmiPending else true
        events := if s.nmiEnabled then s.events ++ [.nmiSound] else s.events } := by
  have hpending : (!s.nmiEnabled || s.nmiPending) = if s.nmiEnabled then s.nmiPending else true := by
    cases s.nmiEnabled <;> rfl
  rw [effect_eq_effectUpdate, ← hpending]
  rfl

end Sys2Proof.Machine

namespace Sys2Proof.Proofs

open Sys2Proof Sys2Proof.Machine Sys2Proof.Claims

/-! ## The operations of one agent (60_exceptions R262) -/

/-- As `wellFormed_iff_of_mainIssued`, for whichever agent it is: the operation is well-formed where it exists,
from that agent, inside its space. -/
theorem wellFormed_iff_of_soleIssuer {i : Instr} {a : Agent} (hissuers : i.issuers = [a]) (s : State) :
    i.WellFormed s.cfg s.agent = true ↔ i.existsOn s.cfg = true ∧ s.agent = a ∧ i.inRange s.cfg = true := by
  simp [Instr.WellFormed, hissuers, and_assoc]

/-- As `operation_of_mainRegister`, for a register of any one agent. -/
theorem operation_of_soleIssuer {i : Instr} {a : Agent} {w : Word} {result : State → State → Prop}
    (hword : encode i = w) (hissuers : i.issuers = [a]) (hrange : ∀ c, i.inRange c = true)
    (hresult : ∀ s, result s (effect i s)) :
    Operation i w (fun s => i.existsOn s.cfg = true ∧ s.agent = a) result := by
  refine operation_intro hword (fun s => ?_) fun s _ => hresult s
  rw [wellFormed_iff_of_soleIssuer hissuers, and_iff_left (hrange s.cfg)]

/-- Settles O21: the main CPU's write is the stored byte and its NMI-assert event, the sound CPU's read its reply alone. -/
theorem soundCommandAndLatchRead : Obligations.SoundCommandAndLatchRead := by
  refine ⟨fun v => ?write, ?read⟩
  case write => exact operation_of_mainRegister rfl rfl (fun _ => rfl) (effect_sndcmdWr v)
  case read => exact operation_of_soleIssuer rfl rfl (fun _ => rfl) fun _ => rfl

/-- Settles O22: disabling writes the gate alone; enabling also lets out the NMI that was pending. -/
theorem nmiDisableAndEnable : Obligations.NmiDisableAndEnable := by
  refine fun d => ⟨?disable, ?enable⟩
  case disable => exact operation_of_soleIssuer rfl rfl (fun _ => rfl) fun _ => rfl
  case enable => exact operation_of_soleIssuer rfl rfl (fun _ => rfl) (effect_eq_effectUpdate (.nmiEn d))

/-- Settles O23: the write is its event alone, and the opcode map gives it to one board. -/
theorem secondCpuNmiTrigger : Obligations.SecondCpuNmiTrigger := by
  refine fun d => ⟨?pulse, ?board⟩
  case pulse => exact operation_of_mainRegister rfl rfl (fun _ => rfl) fun _ => rfl
  case board => exact onlyOn_of_onBoard_iff fun _ _ => Iff.rfl

end Sys2Proof.Proofs
end

section
/-! PROOFS. The protection MCU (43_protection_mcu R156 to R172): the read-back law bit by bit, the windows of the proxy by
the bits of `address`, and what a Port B write leaves of each field. -/
namespace Sys2Proof.Machine

open Sys2Proof

/-- The read-back law: an output bit shows the latch, an input bit the pin (R156). -/
theorem getLsbD_portRead (out pin ddr : Byte) {b : Nat} (hb : b < 8) :
    (portRead out pin ddr).getLsbD b = if ddr.getLsbD b then out.getLsbD b else pin.getLsbD b := by
  simp only [portRead, BitVec.getLsbD_or, BitVec.getLsbD_and, BitVec.getLsbD_not, hb, decide_true, Bool.true_and]
  cases ddr.getLsbD b <;> simp

/-! ## The windows of the proxy, by bits 11 and 10 of `address` (R167) -/

theorem inInputWindow_eq (a : BitVec 16) : inInputWindow a = !a.getLsbD 11 := by
  rw [← decide_and_twoPow_ne_zero a (by decide), decide_not, Bool.not_not]
  rfl

theorem inSharedWindow_eq (a : BitVec 16) : inSharedWindow a = (a.getLsbD 11 && a.getLsbD 10) := by
  have hmask : (0x0C00 : BitVec 16) = BitVec.twoPow 16 11 ||| BitVec.twoPow 16 10 := by decide
  rw [inSharedWindow, hmask, BitVec.and_or_distrib_left, BitVec.and_twoPow, BitVec.and_twoPow]
  cases a.getLsbD 11 <;> cases a.getLsbD 10 <;> decide

@[simp] theorem State.proxyAccess_true (s : State) : s.proxyAccess true = s.proxyRead := rfl

@[simp] theorem State.proxyAccess_false (s : State) : s.proxyAccess false = s.proxyWrite := rfl

/-- A proxied read by the two bits. -/
theorem State.proxyRead_eq_of_bits (s : State) :
    s.proxyRead =
      if s.address.getLsbD 11 = false then { s with latch := s.inp.toList.getD ((s.address &&& 3).toNat + 1) 0 }
      else if s.address.getLsbD 10 = true then { s with latch := s.sharedram2.read (s.address.toNat % 0x400) }
      else { s with events := s.events ++ [.diag 0x01 s.address] } := by
  rw [State.proxyRead, inInputWindow_eq, inSharedWindow_eq, State.inputPort_portIndex, proxyOffset, toNat_and_proxyMask]
  cases s.address.getLsbD 11 <;> cases s.address.getLsbD 10 <;> rfl

/-- A proxied write by the two bits. -/
theorem State.proxyWrite_eq_of_bits (s : State) :
    s.proxyWrite =
      if s.address.getLsbD 11 = true ∧ s.address.getLsbD 10 = true then
        { s with sharedram2 := s.sharedram2.write (s.address.toNat % 0x400) s.portAOut }
      else { s with events := s.events ++ [.diag 0x02 s.address] } := by
  simp only [State.proxyWrite, inSharedWindow_eq, proxyOffset, toNat_and_proxyMask, Bool.and_eq_true]
  rfl

/-! ## What a proxied access leaves, by the masks of the windows (R166, R247) -/

theorem State.proxyRead_latch (s : State) :
    s.proxyRead.latch =
      if s.address &&& 0x0800 = 0 then s.inp.toList.getD ((s.address &&& 3).toNat + 1) 0
      else if s.address &&& 0x0C00 = 0x0C00 then s.sharedram2.read (s.address &&& 0x03FF).toNat
      else s.latch := by
  rw [State.proxyRead_eq, State.inputPort_portIndex]
  simp only [inInputWindow, inSharedWindow, decide_eq_true_eq]
  rfl

theorem State.proxyRead_events (s : State) :
    s.proxyRead.events =
      s.events ++ if s.address &&& 0x0800 ≠ 0 ∧ s.address &&& 0x0C00 ≠ 0x0C00 then [.diag 0x01 s.address] else [] := by
  rw [State.proxyRead_eq, apply_ite (s.events ++ ·), List.append_nil]
  simp only [inInputWindow, inSharedWindow, Bool.or_eq_true, decide_eq_true_eq, ne_eq, ← not_or, ite_not]
  rfl

theorem State.proxyWrite_events (s : State) :
    s.proxyWrite.events =
      s.events ++ if s.address &&& 0x0C00 ≠ 0x0C00 then [.diag 0x02 s.address] else [] := by
  rw [State.proxyWrite_eq, apply_ite (s.events ++ ·), List.append_nil, ite_not]
  simp only [inSharedWindow, decide_eq_true_eq]
  rfl

/-! ## The access and the interrupt of a Port B write -/

/-- The bit-5 action, as one record update (R168). -/
theorem State.onEdge_irq_eq (s : State) (irq : Bool) :
    s.onEdge irq State.raiseMainIrq =
      { s with
        sharedram2 := if irq then s.sharedram2.write 0x7C s.nextDraw else s.sharedram2
        mainIrqVector := if irq then s.sharedram2.read 0 else s.mainIrqVector
        mainIrqPending := irq || s.mainIrqPending
        events := s.events ++ if irq then [.irqMain (s.sharedram2.read 0)] else []
        draws := if irq then s.draws + 1 else s.draws } := by
  cases irq with
  | false => simp
  | true => exact s.raiseMainIrq_eq

/-- The bit-4 action touches what a proxied access does. -/
theorem State.onEdge_access_frame (s : State) (access dir : Bool) :
    let t := s.onEdge access (State.proxyAccess · dir)
    t = { s with latch := t.latch, sharedram2 := t.sharedram2, events := t.events } := by
  cases access with
  | false => rfl
  | true => exact s.proxyAccess_frame dir

end Sys2Proof.Machine

namespace Sys2Proof.Proofs

open Sys2Proof Sys2Proof.Machine Sys2Proof.Claims

/-! ## Port A, the reads and the tick -/

/-- Settles O25: the reply of the read is the read-back law, each write its register alone. -/
theorem portAOperations : Obligations.PortAOperations := by
  refine ⟨?read, fun v => ⟨?latch, ?direction⟩⟩
  case read => exact operation_of_soleIssuer rfl rfl (fun _ => rfl) fun s => ⟨_, rfl, fun _ => getLsbD_portRead _ _ _⟩
  case latch => exact operation_of_soleIssuer rfl rfl (fun _ => rfl) fun _ => rfl
  case direction => exact operation_of_soleIssuer rfl rfl (fun _ => rfl) fun _ => rfl

/-- Settles O26, as `portAOperations`: the pins are those of the configuration, and a new direction runs no action. -/
theorem portBReadAndDirection : Obligations.PortBReadAndDirection := by
  refine ⟨?read, fun v => ?direction⟩
  case read => exact operation_of_soleIssuer rfl rfl (fun _ => rfl) fun s => ⟨_, rfl, fun _ => getLsbD_portRead _ _ _⟩
  case direction => exact operation_of_soleIssuer rfl rfl (fun _ => rfl) fun _ => rfl

/-- Settles O31: the tick is the inverted line and its event alone. -/
theorem mcuInterruptTick : Obligations.McuInterruptTick :=
  operation_of_soleIssuer rfl rfl (fun _ => rfl) fun _ => rfl

/-! ## A Port B write, field by field -/

/-- The state in which the interrupt of a Port B write happens: the loads and the access are done. -/
def afterAccess (s : State) (new : Byte) : State :=
  (afterLoads s new).onEdge (Falls s new 4) (State.proxyAccess · (new.getLsbD 3))

theorem effect_mcuPbWr_eq_afterAccess (s : State) (new : Byte) :
    effect (.mcuPbWr new) s =
      { (afterAccess s new).onEdge (Falls s new 5) State.raiseMainIrq with portBOut := new } := by
  simp only [effect, edgeActions_eq_afterLoads]
  rfl

theorem afterAccess_frame (s : State) (new : Byte) :
    afterAccess s new =
      { afterLoads s new with
        latch := (afterAccess s new).latch
        sharedram2 := (afterAccess s new).sharedram2
        events := (afterAccess s new).events } :=
  State.onEdge_access_frame _ _ _

theorem afterAccess_sharedram2_read (s : State) (new : Byte) (b : Nat) :
    (afterAccess s new).sharedram2.read b = proxiedByte s new b :=
  State.onEdge_access_read _ _ _ b

/-- Only a read that reaches a window brings a byte into `latch` (R166). -/
theorem afterAccess_latch (s : State) (new : Byte) : (afterAccess s new).latch = proxiedLatch s new := by
  rw [afterAccess, proxiedLatch]
  cases Falls s new 4 with
  | false => rfl
  | true =>
    cases new.getLsbD 3 with
    | false => exact State.proxyWrite_latch _
    | true => exact State.proxyRead_latch _

/-- An access outside the windows appends its diagnostic (R247). -/
theorem afterAccess_events (s : State) (new : Byte) : (afterAccess s new).events = s.events ++ proxyEvents s new := by
  rw [afterAccess, proxyEvents]
  cases Falls s new 4 with
  | false => exact (List.append_nil _).symm
  | true =>
    cases new.getLsbD 3 with
    | false => exact State.proxyWrite_events _
    | true => exact State.proxyRead_events _

/-- All that a Port B write does, assembled from the state its access left (R161). -/
theorem mcuPbWr_portBWritten (s : State) (new : Byte) : PortBWritten s new (effect (.mcuPbWr new) s) where
  deliver := State.edgeActions_portAIn s _ _
  address := mcuPbWr_address s new
  latch := by
    rw [effect_mcuPbWr_eq_afterAccess, ← afterAccess_latch]
    exact State.onEdge_irq_latch _ _
  ram := ⟨s.nextDraw, s.nextDraw_lt, mcuPbWr_sharedram2_read s new⟩
  vector := by
    rw [effect_mcuPbWr_eq_afterAccess, State.onEdge_irq_eq, ← afterAccess_sharedram2_read, afterAccess_frame]
    rfl
  pending := by
    rw [effect_mcuPbWr_eq_afterAccess, State.onEdge_irq_eq, afterAccess_frame]
    exact Bool.or_eq_true_iff
  events := by
    rw [effect_mcuPbWr_eq_afterAccess, State.onEdge_irq_eq, ← afterAccess_sharedram2_read, ← afterAccess_events]
  rest := effect_eq_effectUpdate (.mcuPbWr new) s

/-- Settles O27: the write is admitted from the MCU, and every field it leaves is known. -/
theorem portBWrite : Obligations.PortBWrite := fun new =>
  operation_of_soleIssuer rfl rfl (fun _ => rfl) fun s => mcuPbWr_portBWritten s new

/-! ## A Port B write of which the acting edges are known -/

/-- The acting edges are those that `detectEdges` answers (R160). -/
theorem detectEdges_eq_of_actingEdges {s : State} {new : Byte} {acts : Nat → Bool}
    (h : ∀ b, ActingEdge s new b ↔ acts b = true) :
    detectEdges s.portBOut new s.ddrB = ⟨acts 0, acts 1, acts 2, acts 4, acts 5⟩ := by
  have hbit {b : Nat} {edge : Bool} (hedge : ActingEdge s new b ↔ edge = true) : edge = acts b :=
    Bool.eq_iff_iff.2 (hedge.symm.trans (h b))
  show EdgeSet.mk (Falls s new 0) (Rises s new 1) (Rises s new 2) (Falls s new 4) (Falls s new 5) = _
  congr 1 <;> exact hbit (by simp [ActingEdge])

/-- Where the edges that act are known, the write is the actions of those edges and the stored byte. -/
theorem exec_mcuPbWr_of_actingEdges {s : State} {new : Byte} (hmcu : HasMcu s) (hagent : s.agent = .mcu)
    {acts : Nat → Bool} (h : ∀ b, ActingEdge s new b ↔ acts b = true) :
    exec (.mcuPbWr new) s =
      .next { s.edgeActions ⟨acts 0, acts 1, acts 2, acts 4, acts 5⟩ (new.getLsbD 3) with portBOut := new } := by
  rw [← detectEdges_eq_of_actingEdges h]
  exact (exec_next_iff _ s _).2 ⟨(wellFormed_iff_of_soleIssuer rfl s).2 ⟨hmcu, hagent, rfl⟩, rfl⟩

/-- Settles O28: with no edge there is no action. -/
theorem portBWriteWithoutActingEdge : Obligations.PortBWriteWithoutActingEdge := by
  intro s new hmcu hagent hnone
  exact exec_mcuPbWr_of_actingEdges hmcu hagent (acts := fun _ => false) fun b => iff_of_false (hnone b) Bool.false_ne_true

/-- Settles O29: the write is the proxied access alone, which the direction and the two bits of `address` decide. -/
theorem proxyAddressDecode : Obligations.ProxyAddressDecode := by
  intro s new hmcu hagent honly
  have hexec : exec (.mcuPbWr new) s = .next { s.proxyAccess (new.getLsbD 3) with portBOut := new } :=
    exec_mcuPbWr_of_actingEdges hmcu hagent (acts := (· == 4)) fun b => (honly b).trans beq_iff_eq.symm
  refine ⟨_, hexec, ?readInput, ?readShared, ?readUnmapped, ?writeShared, ?writeUnmapped⟩
  case readInput =>
    intro hdir h11
    rw [hdir, State.proxyAccess_true, State.proxyRead_eq_of_bits, if_pos h11]
  case readShared =>
    intro hdir h11 h10
    rw [hdir, State.proxyAccess_true, State.proxyRead_eq_of_bits, if_neg (ne_false_of_eq_true h11), if_pos h10]
  case readUnmapped =>
    intro hdir h11 h10
    rw [hdir, State.proxyAccess_true, State.proxyRead_eq_of_bits, if_neg (ne_false_of_eq_true h11),
      if_neg (ne_true_of_eq_false h10)]
  case writeShared =>
    intro hdir h11 h10
    rw [hdir, State.proxyAccess_false, State.proxyWrite_eq_of_bits, if_pos ⟨h11, h10⟩]
    exact ⟨stored_write _ _ _, rfl⟩
  case writeUnmapped =>
    intro hdir hunmapped
    rw [hdir, State.proxyAccess_false, State.proxyWrite_eq_of_bits, if_neg hunmapped]

/-- Settles O30: the write is the bit-5 action alone, with the next draw as its byte. -/
theorem interruptActionRaisesHeldInterrupt : Obligations.InterruptActionRaisesHeldInterrupt := by
  intro s new hmcu hagent honly
  have hexec : exec (.mcuPbWr new) s = .next { s.raiseMainIrq with portBOut := new } :=
    exec_mcuPbWr_of_actingEdges hmcu hagent (acts := (· == 5)) fun b => (honly b).trans beq_iff_eq.symm
  rw [State.raiseMainIrq_eq] at hexec
  exact ⟨_, hexec, s.nextDraw, s.nextDraw_lt, stored_write _ _ _, rfl⟩

end Sys2Proof.Proofs
end

section
/-! PROOFS. The video RAMs and the video registers (44_video_ram_and_registers R186 to R202): the bits a register or the
nibble RAM keeps, what a write marks, what a frame leaves marked, and the check of the main CPU's video operations. -/
namespace Sys2Proof.Machine

open Sys2Proof

/-! ## The fields of a data byte -/

/-- The nibble RAM is read with bits 7:4 as 0 (R192). -/
theorem zero_append_nibble (v : BitVec 4) : 0#4 ++ v = v.setWidth 8 := by
  rw [BitVec.setWidth_eq_append (by decide)]
  rfl

/-- The nibble RAM keeps bits 3:0 of a written byte (R193). -/
theorem setWidth_four (v : Byte) : v.setWidth 4 = v.extractLsb' 0 4 := BitVec.setWidth_eq_extractLsb' (by decide)

/-- A register of one bit takes bit 0 of a written byte (R200, R201, R202). -/
theorem setWidth_bit (v : Byte) : v.setWidth 1 = v.extractLsb' 0 1 := BitVec.setWidth_eq_extractLsb' (by decide)

theorem toNat_setWidth_bit (v : Byte) : (v.setWidth 1).toNat = if v.getLsbD 0 then 1 else 0 := by
  rw [BitVec.setWidth_one, BitVec.toNat_ofBool]
  cases v.getLsbD 0 <;> rfl

namespace State

variable {s : State}

/-! ## What marking leaves -/

/-- The repaint flag exists in variant S alone, so that marking leaves it in variant K (10_state R41). -/
theorem repaintOnMark_eq_ite_variantK (s : State) :
    s.repaintOnMark = if s.cfg.variant = .k then s.repaint else true := by
  rw [repaintOnMark_eq]
  cases s.cfg.variant <;> rfl

/-- In variant K a change marks every cell and touches nothing else (R197). -/
theorem markAllIf_of_variantK (h : s.cfg.variant = .k) (change : Prop) [Decidable change] :
    s.markAllIf change = { s with dirty := if change then List.range s.cfg.geometry.vramSize else s.dirty } := by
  rw [markAllIf, repaintOnMark_eq_ite_variantK, if_pos h, ite_self]

/-! ## What a frame leaves marked (45_video_compositor R218, R220) -/

/-- After a drawn frame no cell is marked. -/
theorem drawFrame_dirty (s : State) (g : Gfx) : (s.drawFrame g).dirty = [] := rfl

/-- Variant K redraws the marked cells. -/
theorem redrawCells_of_variantK (h : s.cfg.variant = .k) : s.redrawCells = s.dirty := by
  simp only [redrawCells, h]

/-- Variant S redraws nothing unless a repaint is asked for. -/
theorem redrawCells_of_no_repaint (h : s.cfg.variant = .s) (hrepaint : s.repaint = false) : s.redrawCells = [] := by
  simp [redrawCells, h, hrepaint]

/-- After a drawn frame variant S asks for no repaint. -/
theorem drawFrame_repaint_of_variantS (h : s.cfg.variant = .s) (g : Gfx) : (s.drawFrame g).repaint = false := by
  simp only [drawFrame, redrawBackground, h]

/-- After a drawn frame no cell is to be redrawn: no mark is left for variant K and no repaint for variant S. -/
theorem drawFrame_redrawCells (s : State) (g : Gfx) : (s.drawFrame g).redrawCells = [] := by
  cases hv : s.cfg.variant with
  | k => exact redrawCells_of_variantK (s := s.drawFrame g) hv
  | s => exact redrawCells_of_no_repaint hv (drawFrame_repaint_of_variantS hv g)

theorem screenRefresh_of_videoEnabled (h : s.videoEnabled = true) (g : Gfx) (full : Bool) :
    s.screenRefresh g full = (if full then s.markAllDirty else s).drawFrame g := if_pos h

/-- A refresh brings no mark: a frame drops them all, a blank picture keeps them as they were. -/
theorem not_mem_screenRefresh_dirty {n : Nat} (h : n ∉ s.dirty) (g : Gfx) (full : Bool) :
    n ∉ (s.screenRefresh g full).dirty := by
  unfold screenRefresh
  split
  · rw [drawFrame_dirty]
    exact List.not_mem_nil
  · exact h

end State

end Sys2Proof.Machine

namespace Sys2Proof.Proofs

open Sys2Proof Sys2Proof.Machine Sys2Proof.Claims

/-! ## The main CPU's video operations (60_exceptions R262) -/

/-- The rule of an operation that the main CPU alone has, where it exists and its operand is in range. -/
theorem operation_of_mainIssued {i : Instr} {w : Word} {has within : State → Prop} {result : State → State → Prop}
    (hword : encode i = w) (hissuers : i.issuers = [.main]) (hexists : ∀ s, i.existsOn s.cfg = true ↔ has s)
    (hrange : ∀ s, i.inRange s.cfg = true ↔ within s) (hresult : ∀ s, has s → result s (effect i s)) :
    Operation i w (fun s => has s ∧ s.agent = .main ∧ within s) result := by
  refine operation_intro hword (fun s => ?_) fun s ⟨hs, _⟩ => hresult s hs
  rw [wellFormed_iff_of_mainIssued hissuers, hexists, hrange]

/-- The rule of such an operation on a space of `size` cells that every board has. -/
theorem operation_of_mainSpace {i : Instr} {w : Word} {off : Offset} {size : State → Nat}
    {result : State → State → Prop} (hword : encode i = w) (hissuers : i.issuers = [.main])
    (hexists : ∀ c, i.existsOn c = true) (hrange : ∀ s, i.inRange s.cfg = decide (off.toNat < size s))
    (hresult : ∀ s, result s (effect i s)) :
    Operation i w (fun s => s.agent = .main ∧ off.toNat < size s) result := by
  simpa only [true_and] using
    operation_of_mainIssued (has := fun _ => True) (within := fun s => off.toNat < size s) hword hissuers
      (fun s => iff_true_intro (hexists s.cfg)) (fun s => by rw [hrange, decide_eq_true_iff]) fun s _ => hresult s

/-- The rule of such an operation on a space of `size` cells of variant K. -/
theorem operation_of_variantKSpace {i : Instr} {w : Word} {off : Offset} {size : State → Nat}
    {result : State → State → Prop} (hword : encode i = w) (hissuers : i.issuers = [.main])
    (hexists : ∀ c, i.existsOn c = c.isK) (hrange : ∀ s, i.inRange s.cfg = decide (off.toNat < size s))
    (hresult : ∀ s, result s (effect i s)) :
    Operation i w (fun s => VariantK s ∧ s.agent = .main ∧ off.toNat < size s) result :=
  operation_of_mainIssued hword hissuers (fun s => by rw [hexists, Cfg.isK_iff])
    (fun s => by rw [hrange, decide_eq_true_iff]) fun s _ => hresult s

/-- The rule of a register of every board that the main CPU alone writes. -/
theorem operation_of_videoRegister {i : Instr} {w : Word} {result : State → State → Prop} (hword : encode i = w)
    (hissuers : i.issuers = [.main]) (hexists : ∀ c, i.existsOn c = true) (hrange : ∀ c, i.inRange c = true)
    (hresult : ∀ s, result s (effect i s)) : Operation i w (fun s => s.agent = .main) result := by
  simpa only [hexists, true_and] using operation_of_mainRegister hword hissuers hrange hresult

/-- The rule of a register of variant K that the main CPU alone writes. -/
theorem operation_of_variantKRegister {i : Instr} {w : Word} {result : State → State → Prop} (hword : encode i = w)
    (hissuers : i.issuers = [.main]) (hexists : ∀ c, i.existsOn c = c.isK) (hrange : ∀ c, i.inRange c = true)
    (hresult : ∀ s, VariantK s → result s (effect i s)) :
    Operation i w (fun s => VariantK s ∧ s.agent = .main) result := by
  simpa only [and_true] using
    operation_of_mainIssued (has := VariantK) (within := fun _ => True) hword hissuers
      (fun s => by rw [hexists, Cfg.isK_iff]) (fun s => iff_true_intro (hrange s.cfg)) hresult

/-! ## The video RAMs -/

/-- Settles O41: the effect of each read is its reply alone; the nibble RAM's cell is zero-extended. -/
theorem videoRamReads : Obligations.VideoRamReads := by
  refine fun off => ⟨?vram, ?cram, ?obj, ?objx, ?fg⟩
  case vram | cram | obj => exact operation_of_mainSpace rfl rfl (fun _ => rfl) (fun _ => rfl) fun _ => rfl
  case objx =>
    simp only [zero_append_nibble]
    exact operation_of_variantKSpace rfl rfl (fun _ => rfl) (fun _ => rfl) fun _ => rfl
  case fg => exact operation_of_variantKSpace rfl rfl (fun _ => rfl) (fun _ => rfl) fun _ => rfl

/-- Marking a cell does what each write to a tracked RAM must do (R187, R189). -/
theorem cellMarked_markCell (s : State) (n : Nat) : CellMarked s (s.markCell n) n :=
  ⟨fun _ => mem_markIn, s.repaintOnMark_eq_ite_variantK⟩

/-- Settles O42: each write is its stored byte and its mark, which depends on nothing it stores. -/
theorem videoRamWritesMarkTheirCell : Obligations.VideoRamWritesMarkTheirCell := by
  refine fun off v => ⟨?vram, ?cram⟩
  case vram | cram =>
    exact operation_of_mainSpace rfl rfl (fun _ => rfl) (fun _ => rfl) fun s =>
      ⟨stored_write _ _ _, cellMarked_markCell s _, rfl⟩

/-- Settles O43: each write is its stored cell alone, of which the nibble RAM keeps four bits. -/
theorem objectAndForegroundWrites : Obligations.ObjectAndForegroundWrites := by
  refine fun off v => ⟨?obj, ?objx, ?fg⟩
  case obj =>
    exact operation_of_mainSpace rfl rfl (fun _ => rfl) (fun _ => rfl) fun _ => ⟨stored_write _ _ _, rfl⟩
  case objx =>
    rw [← setWidth_four]
    exact operation_of_variantKSpace rfl rfl (fun _ => rfl) (fun _ => rfl) fun _ => ⟨stored_write _ _ _, rfl⟩
  case fg =>
    exact operation_of_variantKSpace rfl rfl (fun _ => rfl) (fun _ => rfl) fun _ => ⟨stored_write _ _ _, rfl⟩

/-! ## The video registers -/

/-- Settles O44: each write is its register alone, and the high part counts 256 where its bit is set. -/
theorem scrollRegisterWrites : Obligations.ScrollRegisterWrites := by
  refine fun v => ⟨?scrollX, ?scrollYLo, ?scrollYHi⟩
  case scrollX | scrollYLo =>
    exact operation_of_videoRegister rfl rfl (fun _ => rfl) (fun _ => rfl) fun _ => rfl
  case scrollYHi =>
    rw [← setWidth_bit, ← toNat_setWidth_bit]
    exact operation_of_videoRegister rfl rfl (fun _ => rfl) (fun _ => rfl) fun _ => ⟨rfl, rfl⟩

/-- Settles O45: both registers exist in variant K alone, where marking every cell leaves the repaint flag. -/
theorem colourRegisterWrites : Obligations.ColourRegisterWrites := by
  intro v
  rw [← setWidth_bit]
  refine ⟨?palbank, ?frontcol⟩
  case palbank =>
    refine operation_of_variantKRegister rfl rfl (fun _ => rfl) (fun _ => rfl) fun s hk => ?_
    rw [effect_eq_effectUpdate, effectUpdate, State.markAllIf_of_variantK hk]
    rfl
  case frontcol => exact operation_of_variantKRegister rfl rfl (fun _ => rfl) (fun _ => rfl) fun _ _ => rfl

/-! ## The dirty-tracking law (R196) -/

/-- The operations that mark: a write to a tracked RAM marks its own cell, four registers may mark every cell. -/
theorem marking_operation_of_marked {i : Instr} {s : State} {n : Nat} (h : n ∈ (effect i s).dirty)
    (hold : n ∉ s.dirty) :
    (∃ off v, off.toNat = n ∧ (i = .vramWr off v ∨ i = .cramWr off v)) ∨
      ∃ v, i = .palbankWr v ∨ i = .flipWr v ∨ i = .bankWr v ∨ i = .vidctrlWr v := by
  cases i with
  | vramWr off v => exact .inl ⟨off, v, ((mem_markIn.1 h).resolve_right hold).symm, .inl rfl⟩
  | cramWr off v => exact .inl ⟨off, v, ((mem_markIn.1 h).resolve_right hold).symm, .inr rfl⟩
  | palbankWr v | flipWr v | bankWr v | vidctrlWr v => exact .inr ⟨v, by simp⟩
  | screenRefresh full => exact absurd h (State.not_mem_screenRefresh_dirty hold Config.gfx full)
  | _ =>
    rw [effect_eq_effectUpdate] at h
    exact absurd h hold

/-- Settles O46: only those operations mark, and a drawn frame leaves no mark and nothing to redraw. -/
theorem dirtyTrackingLaw : Obligations.DirtyTrackingLaw := by
  refine ⟨fun i s t n h hn hold => ?marked, fun s t full h hvideo => ?frame⟩
  case marked =>
    obtain ⟨-, rfl⟩ := (exec_next_iff i s t).1 h
    exact marking_operation_of_marked hn hold
  case frame =>
    obtain ⟨-, rfl⟩ := (exec_next_iff _ s t).1 h
    rw [effect, State.screenRefresh_of_videoEnabled hvideo]
    exact ⟨State.drawFrame_dirty _ _, State.drawFrame_redrawCells _ _⟩

end Sys2Proof.Proofs
end

section
/-! PROOFS. What the compositor draws, as its rules write it: the fields of a cell, and each blit of the machine against
the rule of its cell, sprite sub-tile or object (45_video_compositor R220, R222, R224, R226, R228). -/
namespace Sys2Proof.Machine

open Sys2Proof

/-! ## The fields of a cell -/

/-- The upper bits of a cell, as a quotient. -/
theorem toNat_extractLsb'_upper {w start len : Nat} (v : BitVec w) (hw : w = start + len) :
    (v.extractLsb' start len).toNat = v.toNat / 2 ^ start := by
  have hlt : v.toNat / 2 ^ start < 2 ^ len := Nat.div_lt_of_lt_mul (by rw [← pow_add, ← hw]; exact v.isLt)
  rw [BitVec.extractLsb'_toNat, Nat.shiftRight_eq_div_pow, Nat.mod_eq_of_lt hlt]

/-- The lower bits of a cell, as a remainder. -/
theorem toNat_extractLsb'_lower {w : Nat} (v : BitVec w) (len : Nat) :
    (v.extractLsb' 0 len).toNat = v.toNat % 2 ^ len := by
  rw [BitVec.extractLsb'_toNat, Nat.shiftRight_zero]

theorem toNat_and_colourMask (v : Byte) : (v &&& 0x1F).toNat = v.toNat % 32 := by
  rw [BitVec.toNat_and]
  exact Nat.and_two_pow_sub_one_eq_mod v.toNat 5

/-- A flip bit under the flip flag: the flag inverts it (45_video_compositor R230). -/
theorem xor_flip (bit flip : Bool) : (bit ^^ flip) = if flip then !bit else bit := by
  cases flip <;> simp

/-- A mirrored place as a signed coordinate: counted from the far end, which needs the place to exist. -/
theorem natCast_mul_mirrored (edge : Nat) (flip : Bool) {size k : Nat} (hk : k < size) :
    ((edge * mirrored flip size k : Nat) : Int) =
      if flip then (edge : Int) * ((size : Int) - 1 - k) else (edge : Int) * k := by
  cases flip with
  | false => exact Nat.cast_mul edge k
  | true =>
    show ((edge * (size - 1 - k) : Nat) : Int) = edge * ((size : Int) - 1 - k)
    rw [Nat.cast_mul]
    congr 1
    omega

/-- Two blits are the same when they agree in each argument of R216. -/
theorem Tile.eq_of_arguments {t u : Tile} (set : t.set = u.set) (code : t.code = u.code) (color : t.color = u.color)
    (flipx : t.flipx = u.flipx) (flipy : t.flipy = u.flipy) (x : t.x = u.x) (y : t.y = u.y) : t = u := by
  obtain ⟨⟩ := t
  obtain ⟨⟩ := u
  simp_all only

end Sys2Proof.Machine

namespace Sys2Proof.Proofs

open Sys2Proof Sys2Proof.Machine Sys2Proof.Claims

theorem not_variantK_of_variantS {s : State} (h : s.cfg.variant = .s) : ¬VariantK s :=
  fun hk => nomatch h.symm.trans hk

/-! ## The blits of the machine are those of the rules -/

/-- A background cell is drawn as R220 says: its bank counts in variant K alone, and its place is mirrored when flipped. -/
theorem bgTile_eq_backgroundCell {s : State} {n : Nat} (hn : n < s.cfg.geometry.vramSize) :
    s.bgTile n = backgroundCell s n := by
  refine Tile.eq_of_arguments rfl ?code ?color (xor_flip _ _) (xor_flip _ _) ?x ?y
  case code => exact congrArg (_ + 256 * ·) (toNat_extractLsb'_lower _ 2)
  case color =>
    refine congrArg₂ (· + ·) (toNat_extractLsb'_upper (start := 4) _ rfl) ?_
    show _ = if s.cfg.variant = .k then _ else 0
    cases s.cfg.variant <;> rfl
  case x => exact (s.bgTile_x n).trans (natCast_mul_mirrored _ _ (State.mod_bgCols_lt hn))
  case y => exact (s.bgTile_y n).trans (natCast_mul_mirrored _ _ (State.div_bgCols_lt hn))

/-- A sprite sub-tile is drawn as R224 says. -/
theorem spriteTile_eq_spriteSubTile (s : State) (n y : Nat) : s.spriteTile n y = spriteSubTile s n y := by
  refine Tile.eq_of_arguments rfl rfl (toNat_and_colourMask _) (xor_flip _ _) (xor_flip _ _) ?x ?y
  case x =>
    simp only [State.spriteTile, State.spriteX, toNat_extractLsb'_lower]
    rfl
  case y =>
    simp only [State.spriteTile, State.spriteY, spriteSubTile]
    cases s.flipScreen <;> rfl

/-- A foreground cell is drawn as R226 says: the upper five bits of its code choose its colour. -/
theorem fgTile_eq_foregroundCell (s : State) (n : Nat) : s.fgTile Config.gfx n = foregroundCell s n := by
  have hcode : ((s.fgram.read n).extractLsb' 3 5).toFin = Fin.ofNat 32 ((s.fgram.read n).toNat / 8) := by
    have hupper := toNat_extractLsb'_upper (start := 3) (len := 5) (s.fgram.read n) rfl
    refine Fin.ext ?_
    have hlt := (s.fgram.read n).isLt
    rw [BitVec.val_toFin, hupper, Fin.val_ofNat]
    omega
  refine Tile.eq_of_arguments rfl rfl ?color rfl rfl ?x ?y
  case color => exact congrArg (fun i => 2 * (Config.colorCodes i).toNat + s.frontColor.toNat) hcode
  case x => exact apply_ite (_ * ·) _ _ _
  case y => exact apply_ite (_ * ·) _ _ _

/-- An object is drawn as R228 says. -/
theorem objTile_eq_objectBlit (s : State) (i : Nat) : s.objTile Config.gfx i = objectBlit s i := by
  have hsObj : Config.gfx.sObj = Config.sObj := rfl
  rw [State.objTile, objectBlit, hsObj]
  split
  · next o ho => rw [ho, Option.map_some]
  · next ho => rw [ho, Option.map_none]

/-- What is laid over the background is what R218 lists, in its order. -/
theorem overlay_eq_blittedOver (s : State) : s.overlay Config.gfx = blittedOver s := by
  have hsprite : s.spriteTile = spriteSubTile s := funext₂ (spriteTile_eq_spriteSubTile s)
  have hfg : s.fgTile Config.gfx = foregroundCell s := funext (fgTile_eq_foregroundCell s)
  have hobj : s.objTile Config.gfx = objectBlit s := funext (objTile_eq_objectBlit s)
  cases hv : s.cfg.variant with
  | k =>
    rw [blittedOver, if_pos hv, ← hsprite, ← hfg]
    simp only [State.overlay, hv]
    rfl
  | s =>
    rw [blittedOver, if_neg (not_variantK_of_variantS hv), ← hobj]
    simp only [State.overlay, hv]
    rfl

/-- The scroll offset is that of R222 and R223. -/
theorem scrollOffset_eq_scrollOf (s : State) : s.scrollOffset Config.gfx = scrollOf s := by
  cases hv : s.cfg.variant with
  | k =>
    rw [scrollOf, if_pos hv, Nat.cast_add]
    simp only [State.scrollOffset, hv]
    rfl
  | s =>
    rw [scrollOf, if_neg (not_variantK_of_variantS hv)]
    simp only [State.scrollOffset, hv]
    rfl

/-! ## The statements about the blits -/

/-- Settles O59: a cell keeps to the square of its place on the grid. -/
theorem backgroundCellsDoNotOverlap : Obligations.BackgroundCellsDoNotOverlap :=
  fun _ _ _ _ _ hn hm =>
    ⟨bgTile_eq_backgroundCell hn, State.lt_tmp_of_bgTile_covers hn, State.eq_of_bgTile_covers hn hm⟩

/-- The horizontal place of a sprite wraps from 321 to -191 by default (45_video_compositor R225). -/
theorem spriteX_bounds {s : State} (h : s.cfg.geometry.sprXwrap = 320) (offs : Nat) :
    -191 ≤ s.spriteX offs ∧ s.spriteX offs ≤ 320 := by
  have hlow := (s.fgram.read (offs + 1)).isLt
  have hhigh := ((s.objxram.read (offs + 1)).extractLsb' 0 1).isLt
  simp only [State.spriteX, h]
  split <;> omega

theorem spriteTile_code_le (s : State) (n y : Nat) : (s.spriteTile n y).code ≤ 1023 := by
  have hcode := (s.fgram.read (spriteOffs s.cfg.geometry n + 128 * y)).isLt
  simp only [State.spriteTile]
  split <;> split <;> omega

/-- The furthest offset a sprite sub-tile reads (45_video_compositor R224). -/
theorem spriteOffs_le (q : Geometry) {n y : Nat} (hn : n < 24) (hy : y < 16) :
    spriteOffs q n + 128 * y + 1 ≤ q.objBase + 2007 := by
  simp only [spriteOffs]
  omega

theorem mem_spriteTiles {s : State} {n y : Nat} (hn : n < 24) (hy : y < 16) : s.spriteTile n y ∈ s.spriteTiles :=
  List.mem_flatMap.2 ⟨n, List.mem_range.2 hn, List.mem_map_of_mem (List.mem_range.2 hy)⟩

theorem spriteTiles_length (s : State) : s.spriteTiles.length = 24 * 16 := by
  simp only [State.spriteTiles, List.length_flatMap, List.length_map, List.length_range, List.map_const',
    List.sum_replicate, smul_eq_mul]

/-- Settles O58: the table is 24 times 16 blits, whose offsets are at most 2007 above `OBJ_BASE`. -/
theorem spriteTableRanges : Obligations.SpriteTableRanges := by
  refine fun s => ⟨spriteTiles_length s, fun n y hn hy => ⟨spriteTile_eq_spriteSubTile s n y, mem_spriteTiles hn hy,
    fun hk hc => ?inside, fun hwrap => spriteX_bounds hwrap _, spriteTile_code_le s n y, rfl⟩⟩
  case inside =>
    obtain ⟨hobj, hfg⟩ := hc.sprites hk
    have hoffs := spriteOffs_le s.cfg.geometry hn hy
    exact ⟨hoffs.trans_lt hobj, hoffs.trans_lt hfg⟩

/-- Settles O57: each flip flag of a blit is a bit of its cell, which the flip flag of the screen inverts. -/
theorem flipScreenLaw : Obligations.FlipScreenLaw := by
  intro s n y
  have hflips (bit : Bool) : (bit ^^ true) = !(bit ^^ false) := by simp
  exact ⟨rfl, rfl, hflips _, hflips _, hflips _, hflips _⟩

end Sys2Proof.Proofs
end

section
/-! PROOFS. The frame operation, pixel by pixel: what a refresh shows at each position of `fb`, the background it draws
that from, and the palette its indices are read with (45_video_compositor R212 to R219, R229). -/
namespace Sys2Proof.Machine

open Sys2Proof

/-! ## The palette (45_video_compositor R212) -/

@[simp] theorem decodePalette_length (n : Nat) (r g b : Nat → Byte) : (decodePalette n r g b).length = n := by
  simp [decodePalette]

theorem decodePalette_getElem? {n i : Nat} (hi : i < n) (r g b : Nat → Byte) :
    (decodePalette n r g b)[i]? = some ⟨dac (r i), dac (g i), dac (b i)⟩ := by
  simp [decodePalette, hi]

/-- Bits 7:4 of a PROM byte have no weight, and the largest sum, 0xFF, is a byte (45_video_compositor R212). -/
theorem toNat_dac (b : Byte) :
    (dac b).toNat = 0x0E * (b.getLsbD 0).toNat + 0x1F * (b.getLsbD 1).toNat + 0x43 * (b.getLsbD 2).toNat
      + 0x8F * (b.getLsbD 3).toNat := by
  simp only [dac]
  cases b.getLsbD 0 <;> cases b.getLsbD 1 <;> cases b.getLsbD 2 <;> cases b.getLsbD 3 <;> rfl

namespace State

variable {s : State}

/-! ## What a refresh leaves as it was -/

/-- A disabled picture is a blank frame (45_video_compositor R219). -/
theorem screenRefresh_of_videoDisabled (h : s.videoEnabled = false) (g : Gfx) (full : Bool) :
    s.screenRefresh g full = s.blankFrame := if_neg (by rw [h]; exact Bool.false_ne_true)

@[simp] theorem screenRefresh_cfg (s : State) (g : Gfx) (full : Bool) : (s.screenRefresh g full).cfg = s.cfg := by
  rw [screenRefresh_frame]

@[simp] theorem screenRefresh_videoEnabled (s : State) (g : Gfx) (full : Bool) :
    (s.screenRefresh g full).videoEnabled = s.videoEnabled := by
  rw [screenRefresh_frame]
  rfl

/-- A refresh changes the description of no cell. -/
@[simp] theorem screenRefresh_bgTile (s : State) (g : Gfx) (full : Bool) (n : Nat) :
    (s.screenRefresh g full).bgTile n = s.bgTile n := by
  rw [screenRefresh_frame]
  rfl

theorem screenRefresh_dirty (h : s.videoEnabled = true) (g : Gfx) (full : Bool) :
    (s.screenRefresh g full).dirty = [] := by
  rw [screenRefresh_of_videoEnabled h, drawFrame_dirty]

/-- A frame clears the repaint flag where it exists, in variant S, and a full refresh sets it nowhere else
(45_video_compositor R218, R220). -/
theorem screenRefresh_repaint (h : s.videoEnabled = true) (g : Gfx) (full : Bool) :
    (s.screenRefresh g full).repaint = if s.cfg.variant = .k then s.repaint else false := by
  rw [screenRefresh_of_videoEnabled h]
  cases hv : s.cfg.variant <;> cases full <;> simp [drawFrame, redrawBackground, hv, repaintOnMark]

/-! ## The pixels of a frame (45_video_compositor R216 to R218) -/

/-- The pixel a frame shows at a visible position over the background `tmp`: that of the last blit of the overlay that
writes it, and where none does the scrolled background. -/
def framePixel (s : State) (g : Gfx) (tmp : Bitmap) (x y : Nat) : Pixel :=
  match ((s.overlay g).filter fun o => o.writes s.cfg.geometry g s.cfg.geometry.clip .pen x y).getLast? with
  | some o => o.colourAt s.cfg.geometry g x y
  | none => scrolled s.cfg.geometry tmp (s.scrollOffset g).1 (s.scrollOffset g).2 x y

/-- A frame shows its background through the pixels of `tmp` alone. -/
theorem framePixel_congr (hc : s.cfg.Sound) (g : Gfx) {b d : Bitmap}
    (h : ∀ x y, x < s.cfg.geometry.tmpW → y < s.cfg.geometry.tmpH → b.get x y = d.get x y) (x y : Nat) :
    s.framePixel g b x y = s.framePixel g d x y := by
  simp only [framePixel, scrolled_congr hc.tmpW hc.tmpH h]

/-- A refresh changes nothing a frame is drawn from but `tmp`. -/
@[simp] theorem screenRefresh_framePixel (s : State) (g : Gfx) (full : Bool) :
    (s.screenRefresh g full).framePixel g = s.framePixel g := by
  rw [screenRefresh_frame]
  rfl

/-- A composed frame is `framePixel` inside the visible rectangle, and writes nothing outside it. -/
theorem get_composeFrame (hc : s.cfg.Sound) (hfb : s.fb.sized s.cfg.geometry.fbW s.cfg.geometry.fbH) (g : Gfx)
    {x : Nat} (hx : x < s.cfg.geometry.fbW) (y : Nat) :
    (s.composeFrame g).get x y =
      if s.cfg.geometry.clip.holds x y then s.framePixel g s.tmp x y else s.fb.get x y := by
  obtain ⟨hsized, hcopy⟩ := Bitmap.paint_spec hfb hc.clip_inside
    (scrolled s.cfg.geometry s.tmp (s.scrollOffset g).1 (s.scrollOffset g).2) hx y
  have hblits := get_blitAll s.cfg.geometry g .pen (s.overlay g) hsized hc.clip_inside hx (v := y)
  split
  · next hin =>
    rw [if_pos hin] at hcopy
    refine hblits.trans ?_
    rw [hcopy]
    rfl
  · next hout =>
    rw [if_neg hout] at hcopy
    refine (get_blitAll_of_not_written s.cfg.geometry g .pen _ hsized hc.clip_inside hx fun o _ => ?_).trans hcopy
    simp [Tile.writes, hout]

theorem get_drawFrame (hc : s.cfg.Sound) (hs : s.BitmapsSized) (g : Gfx) {x : Nat} (hx : x < s.cfg.geometry.fbW)
    (y : Nat) :
    (s.drawFrame g).fb.get x y =
      if s.cfg.geometry.clip.holds x y then s.framePixel g (s.drawFrame g).tmp x y else s.fb.get x y :=
  get_composeFrame (s := s.redrawBackground g) hc hs.fb g hx y

/-- All that a refresh does to the picture: inside the visible rectangle it shows a frame, or the fill index where the
video is disabled; outside it writes nothing (45_video_compositor R215, R218, R219). -/
theorem get_screenRefresh (hc : s.cfg.Sound) (hs : s.BitmapsSized) (g : Gfx) (full : Bool) {x : Nat}
    (hx : x < s.cfg.geometry.fbW) (y : Nat) :
    (s.screenRefresh g full).fb.get x y =
      if s.cfg.geometry.clip.holds x y then
        if s.videoEnabled then s.framePixel g (s.screenRefresh g full).tmp x y else s.cfg.geometry.fillIndex
      else s.fb.get x y := by
  cases hv : s.videoEnabled with
  | true =>
    rw [screenRefresh_of_videoEnabled hv]
    cases full with
    | false => exact get_drawFrame hc hs g hx y
    | true => exact get_drawFrame (s := s.markAllDirty) hc { hs with } g hx y
  | false =>
    rw [screenRefresh_of_videoDisabled hv]
    exact Bitmap.get_paint hs.fb hc.clip_inside _ hx y

/-- After a frame `tmp` shows every cell of the background, redrawn or not (45_video_compositor R221). -/
theorem screenRefresh_shows (h : s.Inv) (hcur : s.BackgroundCurrent Config.gfx) (hv : s.videoEnabled = true)
    (full : Bool) {n : Nat} (hn : n < s.cfg.geometry.vramSize) :
    (s.bgTile n).shownBy s.cfg.geometry Config.gfx (s.screenRefresh Config.gfx full).tmp := by
  have hafter : (s.screenRefresh Config.gfx full).BackgroundCurrent Config.gfx :=
    effect_backgroundCurrent h hcur (.screenRefresh full)
  have hshown := hafter n (by rwa [screenRefresh_cfg]) (by rw [screenRefresh_dirty hv]; exact List.not_mem_nil)
  rwa [screenRefresh_bgTile, screenRefresh_cfg] at hshown

/-- A second frame leaves the background of the first (45_video_compositor R229 (b)). -/
theorem screenRefresh_twice_tmp (h : s.Inv) (hcur : s.BackgroundCurrent Config.gfx) (hv : s.videoEnabled = true)
    {full : Bool} (hnext : (s.screenRefresh Config.gfx full).Inv) (again : Bool) {x y : Nat}
    (hx : x < s.cfg.geometry.tmpW) (hy : y < s.cfg.geometry.tmpH) :
    ((s.screenRefresh Config.gfx full).screenRefresh Config.gfx again).tmp.get x y =
      (s.screenRefresh Config.gfx full).tmp.get x y := by
  have hcurrent : (s.screenRefresh Config.gfx full).BackgroundCurrent Config.gfx :=
    effect_backgroundCurrent h hcur (.screenRefresh full)
  refine get_eq_of_shownBy (s := s) (g := Config.gfx) (fun n hn => ?second)
    (fun n hn => screenRefresh_shows h hcur hv full hn) hx hy
  case second =>
    have hshown := screenRefresh_shows hnext hcurrent (by rwa [screenRefresh_videoEnabled]) again (n := n)
      (by rwa [screenRefresh_cfg])
    rwa [screenRefresh_bgTile, screenRefresh_cfg] at hshown

end State

/-- Outside the visible rectangle no operation writes a pixel (45_video_compositor R215). -/
theorem effect_fb_of_not_holds {s : State} (hc : s.cfg.Sound) (hs : s.BitmapsSized) {x y : Nat}
    (hx : x < s.cfg.geometry.fbW) (hout : s.cfg.geometry.clip.holds x y = false) (i : Instr) :
    (effect i s).fb.get x y = s.fb.get x y := by
  cases i with
  | screenRefresh full =>
    exact (State.get_screenRefresh hc hs Config.gfx full hx y).trans (if_neg (by rw [hout]; exact Bool.false_ne_true))
  | _ => rw [effect_eq_effectUpdate]; rfl

end Sys2Proof.Machine

namespace Sys2Proof.Proofs

open Sys2Proof Sys2Proof.Machine Sys2Proof.Claims

/-! ## The frame operation -/

/-- Settles O48: the scheduler alone issues a refresh, which every board has. -/
theorem screenRefreshChangesOnlyThePicture : Obligations.ScreenRefreshChangesOnlyThePicture := by
  intro full
  have hword : encode (.screenRefresh full) = 0x50#8 ++ 0x0000#16 ++ (if full then 1#8 else 0#8) := by
    cases full <;> rfl
  simpa only [Instr.existsOn, true_and] using
    operation_of_soleIssuer hword rfl (fun _ => rfl) fun s =>
      ⟨s.screenRefresh_frame Config.gfx full,
        fun hv => ⟨State.screenRefresh_dirty hv _ _, State.screenRefresh_repaint hv _ _⟩,
        fun hv => by
          rw [effect, State.screenRefresh_of_videoDisabled hv]
          exact ⟨rfl, rfl, rfl⟩⟩

/-- Settles O50: a step stands still or performs an effect. -/
theorem pixelsOutsideTheClipAreNeverWritten : Obligations.PixelsOutsideTheClipAreNeverWritten := by
  intro s t x y hc hs hst hx _ hout
  obtain ⟨-, rfl⟩ | ⟨tr, rest, i, -, -, -, rfl⟩ := step_next_cases hst
  · rfl
  · exact effect_fb_of_not_holds (s := s.accept tr rest) hc { hs with } hx hout i

/-- The boards without a video-enable bit (00_scope R9). -/
theorem veMask_of_tokio_or_kyugo {s : State} (h : OfBoard s .tokio ∨ OfBoard s .kyugo) : s.cfg.veMask = 0 := by
  obtain ⟨_, hrow⟩ | ⟨_, hrow⟩ := h <;> exact congrArg BoardParams.veMask hrow

theorem videoEnabled_of_veMask_zero {s : State} (h : s.cfg.veMask = 0) : s.videoEnabled = true := by
  simp [State.videoEnabled, h]

theorem videoEnabled_of_veMask {s : State} (h : s.cfg.veMask ≠ 0) : s.videoEnabled = s.videoEnable := by
  rw [State.videoEnabled, decide_eq_false h, Bool.false_or]

/-- Settles O49: a refresh with the video disabled is the blank frame, and a hard-wired `video_enable` is true. -/
theorem disabledVideoShowsTheFillIndex : Obligations.DisabledVideoShowsTheFillIndex := by
  refine ⟨fun s full hmask hoff hagent hc hfb => ?blank, fun s h => ?hardWired⟩
  case blank =>
    have hv : s.videoEnabled = false := (videoEnabled_of_veMask hmask).trans hoff
    have hnext : exec (.screenRefresh full) s = .next s.blankFrame :=
      (exec_next_iff _ s _).2 ⟨(wellFormed_iff_of_soleIssuer rfl s).2 ⟨rfl, hagent, rfl⟩,
        (State.screenRefresh_of_videoDisabled hv Config.gfx full).symm⟩
    refine ⟨s.blankFrame, hnext, rfl, fun x y hx _ => (Bitmap.get_paint hfb hc.clip_inside _ hx y).trans ?_⟩
    simp only [clip_holds_iff, Int.ofNat_le]
  case hardWired =>
    obtain hmask | hboard := h
    · exact videoEnabled_of_veMask_zero hmask
    · exact videoEnabled_of_veMask_zero (veMask_of_tokio_or_kyugo hboard)

/-! ## The picture -/

/-- A visible position lies inside `fb`. -/
theorem lt_fbW_of_holds {c : Cfg} (hc : c.Sound) {x y : Nat} (h : c.geometry.clip.holds x y = true) :
    x < c.geometry.fbW := by
  obtain ⟨-, hx, -⟩ := clip_holds_iff.1 h
  exact (Int.ofNat_le.1 hx).trans_lt hc.clipX

/-- At a visible position a blit writes where R216 says it draws. -/
theorem writes_eq_drawnAt {q : Geometry} {x y : Nat} (h : q.clip.holds x y = true) (o : Tile) :
    o.writes q Config.gfx q.clip .pen x y = drawnAt q o x y := by
  rw [Bool.eq_iff_iff]
  simp only [Tile.writes, Tile.covers, drawnAt, decide_eq_true_eq, h, true_and, and_assoc]
  rfl

/-- Settles O51: a visible pixel is `framePixel`, whose overlay and scroll offset are those of the rules. -/
theorem everyVisiblePixelOfAFrame : Obligations.EveryVisiblePixelOfAFrame := by
  intro s t full x y hc hs hv ht hin
  obtain ⟨-, rfl⟩ := (exec_next_iff _ s t).1 ht
  have hpixel := State.get_screenRefresh hc hs Config.gfx full (lt_fbW_of_holds hc hin) y
  rw [if_pos hin, if_pos hv] at hpixel
  refine hpixel.trans ?_
  simp only [State.framePixel, writes_eq_drawnAt hin, overlay_eq_blittedOver, scrollOffset_eq_scrollOf]
  generalize ((blittedOver s).filter fun o => drawnAt s.cfg.geometry o x y).getLast? = topmost
  cases topmost with
  | some o => rfl
  | none => rfl

/-- A place moved back by a negative offset, wrapped round (45_video_compositor R217). -/
theorem toNat_sub_neg_emod (x shift size : Nat) : (((x : Int) - -(shift : Int)) % size).toNat = (x + shift) % size := by
  rw [sub_neg_eq_add]
  exact congrArg Int.toNat (Int.natCast_mod (x + shift) size).symm

/-- Settles O52: the two moduli of a scroll copy, with the signs of R222 taken away. -/
theorem kyugoScrollMapping : Obligations.KyugoScrollMapping := by
  intro s fb x y hk hc hfb hin
  refine (Bitmap.get_paint hfb hc.clip_inside _ (lt_fbW_of_holds hc hin) y).trans ?_
  rw [if_pos hin, scrollOffset_eq_scrollOf, scrollOf, if_pos hk, scrolled, toNat_sub_neg_emod, ← add_assoc]
  congr 1
  cases s.flipScreen with
  | true => rfl
  | false => exact toNat_sub_neg_emod _ _ _

/-- Settles O54: `tmp` shows every cell, and a cell is the blit of its rule. -/
theorem frameLeavesEveryCellCurrent : Obligations.FrameLeavesEveryCellCurrent := by
  intro s t full h hcur hv ht n px py hn hpx hpy
  obtain ⟨-, rfl⟩ := (exec_next_iff _ s t).1 ht
  have hshown := State.screenRefresh_shows h hcur hv full hn
  rw [bgTile_eq_backgroundCell hn] at hshown
  exact hshown px py hpx hpy

/-- Settles O56: the second picture keeps what the first left outside the visible rectangle, and inside it is drawn from
the same registers, overlay and background. -/
theorem repeatedRefreshShowsTheSameFrame : Obligations.RepeatedRefreshShowsTheSameFrame := by
  intro s t u full again h hcur ht hu x y hx _
  obtain ⟨hw, rfl⟩ := (exec_next_iff _ s t).1 ht
  obtain ⟨-, rfl⟩ := (exec_next_iff _ _ u).1 hu
  have hnext : (s.screenRefresh Config.gfx full).Inv := effect_inv h hw
  have hfirst := State.get_screenRefresh h.configuration h.bitmaps Config.gfx full hx y
  have hsecond := State.get_screenRefresh hnext.configuration hnext.bitmaps Config.gfx again (x := x)
    (by rwa [State.screenRefresh_cfg]) y
  rw [State.screenRefresh_cfg, State.screenRefresh_videoEnabled, State.screenRefresh_framePixel] at hsecond
  refine hsecond.trans ?_
  split
  · next hin =>
    rw [if_pos hin] at hfirst
    refine Eq.trans ?_ hfirst.symm
    split
    · next hv =>
      exact State.framePixel_congr h.configuration Config.gfx
        (fun _ _ hx hy => State.screenRefresh_twice_tmp h hcur hv hnext again hx hy) x y
    · rfl
  · rfl

/-! ## The palette -/

/-- Settles O47: the table is the decode of sixteen bytes, and machine-init decodes entry by entry. -/
theorem paletteDecode : Obligations.PaletteDecode :=
  ⟨toNat_dac, by decide, fun _ => ⟨decodePalette_length _ _ _ _, fun _ hi => decodePalette_getElem? hi _ _ _⟩⟩

end Sys2Proof.Proofs
end

section
/-! PROOFS. The constant read, the write without effect and the input ports (46_misc_registers R241, R242; 60_exceptions
R258): a port read after a port written, and the checks of the two operations that only the agent or the index can fail. -/
namespace Sys2Proof.Machine

open Sys2Proof

/-- An input port read after one written. -/
theorem getD_setIfInBounds (ports : Vector Byte 5) (a : Nat) (v : Byte) {n : Nat} (hn : n < 5) :
    (ports.setIfInBounds a v).toList.getD n 0 = if n = a then v else ports.toList.getD n 0 := by
  split
  · next heq =>
    subst heq
    rw [List.getD_eq_getElem?_getD, Vector.getElem?_toList, Vector.getElem?_setIfInBounds_self_of_lt hn,
      Option.getD_some]
  · next hne =>
    by_contra hchanged
    exact hne (eq_of_getD_setIfInBounds_ne hchanged).symm

end Sys2Proof.Machine

namespace Sys2Proof.Proofs

open Sys2Proof Sys2Proof.Machine Sys2Proof.Claims

/-- `NOP_WR` is on every board and its operands are never out of range: only the issuer is checked (R242, R262). -/
theorem wellFormed_nopWr_iff (a : Offset) (v : Byte) (s : State) :
    (Instr.nopWr a v).WellFormed s.cfg s.agent = true ↔ s.agent = .main ∨ s.agent = .sub ∨ s.agent = .sound := by
  simp [Instr.WellFormed, Instr.existsOn, Instr.issuers, Instr.inRange]

/-- `ENV_INPORT` is on every board: the issuer and the index of the port are checked (R258, R262). -/
theorem wellFormed_envInport_iff (a : Offset) (v : Byte) (s : State) :
    (Instr.envInport a v).WellFormed s.cfg s.agent = true ↔ s.agent = .env ∧ a.toNat ≤ 4 := by
  rw [wellFormed_iff_of_soleIssuer rfl, ← Nat.lt_succ_iff]
  simp [Instr.existsOn, Instr.inRange]

/-- Settles O60: the read's effect is its reply alone, that of `NOP_WR` the state it was given, and that of `ENV_INPORT`
one port. -/
theorem constantReadNoEffectWriteAndInputs : Obligations.ConstantReadNoEffectWriteAndInputs := by
  refine ⟨?fakeRd, ?board, fun a v => ⟨?nopWr, ?envInport⟩⟩
  case fakeRd => exact operation_of_mainRegister rfl rfl (fun _ => rfl) fun _ => rfl
  case board => exact onlyOn_of_onBoard_iff fun _ _ => Iff.rfl
  case nopWr => exact operation_intro rfl (wellFormed_nopWr_iff a v) fun _ _ => rfl
  case envInport =>
    exact operation_intro rfl (wellFormed_envInport_iff a v) fun s _ =>
      ⟨rfl, fun _ hn => getD_setIfInBounds s.inp a.toNat v hn⟩

end Sys2Proof.Proofs
end

section
/-! PROOFS. The step over a whole script: with none left the block stands still, and a script of admitted transactions
runs to its end and beyond (60_exceptions R245, R267; 70_reset_and_hazards R282). -/
namespace Sys2Proof.Machine

open Sys2Proof

theorem step_of_no_script {s : State} (h : s.script = []) : step s = .next s := by
  simp only [step, h]

/-- No operation takes a transaction from the script or puts one there: it is the step that does. -/
@[simp] theorem effect_script (i : Instr) (s : State) : (effect i s).script = s.script := by
  rw [effect_eq_effectUpdate]
  cases i <;> rfl

/-- An admitted transaction at the front of the script is performed. -/
theorem step_of_wellFormed {s : State} {t : Transaction} {rest : List Transaction} {i : Instr}
    (hs : s.script = t :: rest) (hd : decode t.word = .ok i) (hw : i.WellFormed s.cfg t.agent = true) :
    step s = .next (effect i (s.accept t rest)) :=
  (step_of_decode hs hd).trans ((exec_next_iff i (s.accept t rest) _).2 ⟨hw, rfl⟩)

/-- One step performs the admitted transaction at the front, and those behind it stay admitted, for the configuration
stays. -/
theorem State.scriptAdmitted.step_next {s : State} (h : s.scriptAdmitted) :
    ∃ t, step s = .next t ∧ t.scriptAdmitted := by
  cases hs : s.script with
  | nil => exact ⟨s, step_of_no_script hs, h⟩
  | cons first rest =>
    obtain ⟨i, hd, hw⟩ := h first (hs ▸ List.mem_cons_self)
    refine ⟨_, step_of_wellFormed hs hd hw, ?_⟩
    intro t ht
    rw [effect_script] at ht
    rw [effect_cfg]
    exact h t (hs ▸ List.mem_cons_of_mem first ht)

/-- A run that can take its first step goes on from where that step led. -/
theorem run_succ_of_next {M : Host.Core} {s t : M.State} (h : M.step s = .next t) (k : Nat) :
    M.run (k + 1) s = M.run k t := by
  rw [Host.Core.run, h]

/-- A run of admitted transactions is never refused, by induction on its length. -/
theorem State.scriptAdmitted.safe {s : State} (h : s.scriptAdmitted) : s.Safe := by
  intro k
  induction k generalizing s with
  | zero => exact ⟨s, rfl⟩
  | succ k ih =>
    obtain ⟨t, hstep, ht⟩ := h.step_next
    obtain ⟨u, hrun⟩ := ih ht
    exact ⟨u, (run_succ_of_next (M := core) hstep k).trans hrun⟩

end Sys2Proof.Machine

namespace Sys2Proof.Proofs

open Sys2Proof Sys2Proof.Machine

/-- Settles O7: the step of a machine with an empty script answers the machine. -/
theorem blockDoesNothingOnItsOwn : Obligations.BlockDoesNothingOnItsOwn :=
  fun _ h => step_of_no_script h

/-- Settles O8: one step keeps the script admitted, so every number of steps answers. -/
theorem admittedScriptIsNeverRefused : Obligations.AdmittedScriptIsNeverRefused :=
  fun _ h => ⟨h.step_next, h.safe⟩

end Sys2Proof.Proofs
end

section
/-! PROOFS. Machine-init (70_reset_and_hazards R280, R281): the table of reset values, and the invariant in the state it
leaves. -/
namespace Sys2Proof

/-- The boards on which the bank register has no video-enable bit (00_scope R9). -/
theorem BoardParams.veMask_standard_iff (b : Board) (fitted : Bool) :
    (BoardParams.standard b fitted).veMask = 0 ↔ b = .tokio ∨ b = .kyugo := by
  cases b <;> simp [BoardParams.standard]

end Sys2Proof

namespace Sys2Proof.Machine

open Sys2Proof

variable (c : Cfg)

theorem State.resetFor_videoEnable_iff : (State.resetFor c).videoEnable = true ↔ c.veMask = 0 := decide_eq_true_iff

theorem State.mem_resetFor_dirty {n : Nat} : n ∈ (State.resetFor c).dirty ↔ n < c.geometry.vramSize := List.mem_range

/-- Machine-init lists no cell of any space. -/
theorem State.resetFor_memoriesWithin : (State.resetFor c).MemoriesWithin := by
  constructor <;> exact fun _ h => absurd h List.not_mem_nil

/-- Machine-init marks every cell and asks for a repaint (10_state R41, R43). -/
theorem State.resetFor_dirtySound : (State.resetFor c).DirtySound where
  ascending := List.pairwise_lt_range
  cells _ hn := (State.mem_resetFor_dirty c).1 hn
  repaint _ _ := rfl

variable {c}

/-- Machine-init of a sound configuration establishes the invariant (60_exceptions R268). -/
theorem State.resetFor_inv (hc : c.Sound) : (State.resetFor c).Inv where
  configuration := hc
  canonical := State.resetFor_memoriesCanonical c
  within := State.resetFor_memoriesWithin c
  latch h := Bool.false_ne_true h.1
  address := by
    show (0 : BitVec 16).toNat < 0x1000
    decide
  dirty := State.resetFor_dirtySound c
  palette := rfl
  bitmaps := ⟨Bitmap.blank_sized _ _, Bitmap.blank_sized _ _⟩
  pixels := ⟨Bitmap.blank_below hc.colours _ _, Bitmap.blank_below hc.colours _ _⟩

/-- `tmp` need show nothing after machine-init, for every cell is marked. -/
theorem State.resetFor_backgroundCurrent (g : Gfx) : (State.resetFor c).BackgroundCurrent g :=
  State.backgroundCurrent_of_all_marked fun _ hn => (State.mem_resetFor_dirty c).2 hn

end Sys2Proof.Machine

namespace Sys2Proof.Proofs

open Sys2Proof Sys2Proof.Machine Sys2Proof.Claims

/-- Settles O10: registers and memories are as machine-init writes them; `video_enable` by the mask of the board's row, the
marks and the pixels by what the set and the bitmaps hold. -/
theorem resetValues : Obligations.ResetValues := by
  intro c s
  refine ⟨⟨rfl, rfl, rfl, rfl, rfl, rfl, rfl⟩, ⟨rfl, rfl, rfl⟩, ⟨rfl, rfl⟩, State.resetFor_videoEnable_iff c, ?boards,
    ⟨rfl, rfl, rfl, rfl, rfl⟩, fun _ => rfl, fun _ => State.mem_resetFor_dirty c, ⟨rfl, rfl, rfl, rfl⟩,
    fun _ => ⟨rfl, rfl, rfl, rfl, rfl, rfl, rfl, rfl⟩, ?pixels, rfl⟩
  case boards =>
    rintro b ⟨fitted, hrow⟩
    have hmask : c.veMask = (BoardParams.standard b fitted).veMask := congrArg BoardParams.veMask hrow
    rw [← BoardParams.veMask_standard_iff b fitted, ← hmask]
    exact State.resetFor_videoEnable_iff c
  case pixels => exact fun x y => ⟨Bitmap.get_blank _ _ x y, Bitmap.get_blank _ _ x y⟩

/-- Settles O11: machine-init establishes the invariant from the premises of the configuration, and the configuration of
`State.reset` meets them. -/
theorem invariantHoldsAtReset : Obligations.InvariantHoldsAtReset :=
  ⟨fun _ hc => ⟨State.resetFor_inv hc, State.resetFor_backgroundCurrent _⟩,
    State.resetFor_inv (standard_sound _ _ _), State.resetFor_backgroundCurrent _⟩

end Sys2Proof.Proofs
end

section
/-! PROOFS. The held interrupt: which operations raise it, clear it and change its vector (60_exceptions R252, R253). -/
namespace Sys2Proof.Proofs

open Sys2Proof Sys2Proof.Machine Sys2Proof.Claims

/-- Settles O32: the effect is the reply and the cleared request alone. -/
theorem mainInterruptAcknowledge : Obligations.MainInterruptAcknowledge :=
  operation_of_mainRegister rfl rfl (fun _ => rfl) fun _ => rfl

/-- A Port B write raises the request on its bit-5 edge and never clears it (43_protection_mcu R168). -/
theorem mcuPbWr_mainIrqPending_iff (s : State) (v : Byte) :
    (effect (.mcuPbWr v) s).mainIrqPending = true ↔ Falls s v 5 = true ∨ s.mainIrqPending = true :=
  (mcuPbWr_portBWritten s v).pending

/-- A Port B write changes the vector on its bit-5 edge alone. -/
theorem mcuPbWr_mainIrqVector_changes {s : State} {v : Byte}
    (h : (effect (.mcuPbWr v) s).mainIrqVector ≠ s.mainIrqVector) : Falls s v 5 = true := by
  by_contra hf
  exact h ((mcuPbWr_portBWritten s v).vector.trans (if_neg hf))

/-- No operation but the acknowledge clears the request. -/
theorem mainIrqAck_of_cleared {i : Instr} {s : State} (hpend : s.mainIrqPending = true)
    (hclear : (effect i s).mainIrqPending = false) : i = .mainIrqAck := by
  cases i with
  | mainIrqAck => rfl
  | mcuPbWr v => exact absurd ((mcuPbWr_mainIrqPending_iff s v).2 (.inr hpend)) (ne_true_of_eq_false hclear)
  | _ =>
    rw [effect_eq_effectUpdate] at hclear
    exact absurd hpend (ne_true_of_eq_false hclear)

/-- No operation but a Port B write in which bit 5 falls raises the request. -/
theorem bit5Falls_of_raised {i : Instr} {s : State} (hpend : s.mainIrqPending = false)
    (hraise : (effect i s).mainIrqPending = true) : ∃ v, i = .mcuPbWr v ∧ Falls s v 5 = true := by
  cases i with
  | mainIrqAck => exact absurd hraise Bool.false_ne_true
  | mcuPbWr v =>
    exact ⟨v, rfl, ((mcuPbWr_mainIrqPending_iff s v).1 hraise).resolve_right (ne_true_of_eq_false hpend)⟩
  | _ =>
    rw [effect_eq_effectUpdate] at hraise
    exact absurd hraise (ne_true_of_eq_false hpend)

/-- No operation but a Port B write in which bit 5 falls changes the vector. -/
theorem bit5Falls_of_vector_changed {i : Instr} {s : State} (h : (effect i s).mainIrqVector ≠ s.mainIrqVector) :
    ∃ v, i = .mcuPbWr v ∧ Falls s v 5 = true := by
  cases i with
  | mcuPbWr v => exact ⟨v, rfl, mcuPbWr_mainIrqVector_changes h⟩
  | _ =>
    rw [effect_eq_effectUpdate] at h
    exact absurd rfl h

/-- Settles O33: the acknowledge clears, the bit-5 action raises, and no other operation touches the request or its
vector. -/
theorem interruptHeldUntilAcknowledged : Obligations.InterruptHeldUntilAcknowledged := by
  intro i s t h
  obtain ⟨-, rfl⟩ := (exec_next_iff i s t).1 h
  exact ⟨mainIrqAck_of_cleared, bit5Falls_of_raised, bit5Falls_of_vector_changed⟩

end Sys2Proof.Proofs
end

section
/-! PROOFS. The events: which ones each operation appends, and the cause of each (60_exceptions R247, R248). -/
namespace Sys2Proof.Machine

open Sys2Proof

/-! ## The windows of the proxy that a diagnostic excludes, by bits 11 and 10 of `address` (43_protection_mcu R166) -/

theorem and_inputMask_ne_zero_iff (a : BitVec 16) : a &&& 0x0800 ≠ 0 ↔ a.getLsbD 11 = true := by
  rw [← decide_and_twoPow_ne_zero a (by decide), decide_eq_true_iff]
  rfl

theorem and_sharedMask_eq_iff (a : BitVec 16) :
    a &&& 0x0C00 = 0x0C00 ↔ a.getLsbD 11 = true ∧ a.getLsbD 10 = true := by
  rw [← inSharedWindow_iff, inSharedWindow_eq, Bool.and_eq_true]

end Sys2Proof.Machine

namespace Sys2Proof.Proofs

open Sys2Proof Sys2Proof.Machine Sys2Proof.Claims

/-! ## The events of an operation -/

/-- The events an operation appends (60_exceptions R247, R248). -/
def eventsOf (i : Instr) (s : State) : List Event :=
  match i with
  | .sndcmdWr _ => if s.nmiEnabled then [.nmiSound] else []
  | .nmiEn _ => if s.nmiPending then [.nmiSound] else []
  | .nmitrigWr _ => [.nmiSub]
  | .mcuIrqTick => [.irqMcu !s.mcuIrqLine]
  | .mcuPbWr v => proxyEvents s v ++ if Falls s v 5 then [.irqMain (proxiedByte s v 0)] else []
  | _ => []

theorem effect_events (i : Instr) (s : State) : (effect i s).events = s.events ++ eventsOf i s := by
  cases i with
  | sndcmdWr v =>
    rw [effect_sndcmdWr, eventsOf, apply_ite (s.events ++ ·), List.append_nil]
  | nmiEn d =>
    rw [effect_eq_effectUpdate, eventsOf, apply_ite (s.events ++ ·), List.append_nil]
    rfl
  | nmitrigWr d => rfl
  | mcuIrqTick => rfl
  | mcuPbWr v => exact (mcuPbWr_portBWritten s v).events.trans (List.append_assoc _ _ _)
  | _ =>
    rw [effect_eq_effectUpdate]
    exact (List.append_nil _).symm

/-- An event that a gate lets out is the one behind it, and the gate is open. -/
theorem mem_gated {gate : Prop} [Decidable gate] {e e' : Event} (h : e ∈ if gate then [e'] else []) : gate ∧ e = e' := by
  rwa [List.mem_ite_nil_right, List.mem_singleton] at h

/-- A diagnostic needs the bit-4 edge and an address outside the windows of its direction (43_protection_mcu R166). -/
theorem eventCaused_of_mem_proxyEvents {s : State} {v : Byte} {e : Event} (h : e ∈ proxyEvents s v) :
    EventCaused (.mcuPbWr v) s (effect (.mcuPbWr v) s) e := by
  have haddr := (mcuPbWr_address s v).symm
  simp only [proxyEvents, and_inputMask_ne_zero_iff, ne_eq, and_sharedMask_eq_iff] at h
  obtain ⟨hfall, h⟩ := List.mem_ite_nil_right.1 h
  split at h
  case isTrue hdir =>
    obtain ⟨⟨h11, hshared⟩, rfl⟩ := mem_gated h
    exact ⟨v, rfl, hfall, haddr, .inl ⟨rfl, hdir, h11, eq_false_of_ne_true fun h10 => hshared ⟨h11, h10⟩⟩⟩
  case isFalse hdir =>
    obtain ⟨hunmapped, rfl⟩ := mem_gated h
    exact ⟨v, rfl, hfall, haddr, .inr ⟨rfl, eq_false_of_ne_true hdir, hunmapped⟩⟩

/-- Every event an operation appends has its cause. -/
theorem eventCaused_of_mem_eventsOf {i : Instr} {s : State} {e : Event} (h : e ∈ eventsOf i s) :
    EventCaused i s (effect i s) e := by
  cases i with
  | sndcmdWr v =>
    obtain ⟨hgate, rfl⟩ := mem_gated h
    exact .inl ⟨v, rfl, hgate⟩
  | nmiEn d =>
    obtain ⟨hgate, rfl⟩ := mem_gated h
    exact .inr ⟨d, rfl, hgate⟩
  | nmitrigWr d =>
    obtain rfl := List.mem_singleton.1 h
    exact ⟨d, rfl⟩
  | mcuIrqTick =>
    obtain rfl := List.mem_singleton.1 h
    exact ⟨rfl, rfl⟩
  | mcuPbWr v =>
    obtain h | h := List.mem_append.1 h
    · exact eventCaused_of_mem_proxyEvents h
    · obtain ⟨hfall, rfl⟩ := mem_gated h
      exact ⟨v, rfl, hfall, ((mcuPbWr_portBWritten s v).vector.trans (if_pos hfall)).symm⟩
  | _ => exact absurd h List.not_mem_nil

/-- Settles O39: the events appended are those of the operation, whatever the trace held before. -/
theorem eventsHaveTheirCauses : Obligations.EventsHaveTheirCauses := by
  intro i s t new h hnew e he
  obtain ⟨-, rfl⟩ := (exec_next_iff i s t).1 h
  rw [effect_events] at hnew
  rw [← List.append_cancel_left hnew] at he
  exact eventCaused_of_mem_eventsOf he

end Sys2Proof.Proofs
end

section
/-! PROOFS. The wires of the agents: what an operation that an agent may issue can change (60_exceptions R262, R263). -/
namespace Sys2Proof.Machine

open Sys2Proof

theorem wellFormed_issuers {c : Cfg} {a : Agent} {i : Instr} (h : i.WellFormed c a = true) :
    i.issuers.contains a = true := by
  simp only [Instr.WellFormed, Bool.and_eq_true] at h
  obtain ⟨⟨-, hwired⟩, -⟩ := h
  exact hwired

end Sys2Proof.Machine

namespace Sys2Proof.Proofs

open Sys2Proof Sys2Proof.Machine

/-- Settles O37, agent by agent: each operation the agent is wired to leaves the other fields as they were by definition of
its record update, and any other it cannot have had performed. -/
theorem agentsChangeOnlyWhatTheyAreWiredTo : Obligations.AgentsChangeOnlyWhatTheyAreWiredTo := by
  intro i s t h
  obtain ⟨hw, rfl⟩ := (exec_next_iff i s t).1 h
  have hwired := wellFormed_issuers hw
  rw [effect_eq_effectUpdate]
  refine ⟨?main, ?sub, ?sound, ?env, ?sched, ?mcu⟩ <;> intro hagent <;> rw [hagent] at hwired
  case main =>
    cases i with
    | sr1Rd | sr1Wr | sr2Rd | sr2Wr | shrRd | shrWr => rfl
    | bankWr | vidctrlWr | romwinRd => rfl
    | sndcmdWr | nmitrigWr | mainIrqAck => rfl
    | vramRd | vramWr | cramRd | cramWr | objRd | objWr | objxRd | objxWr | fgRd | fgWr => rfl
    | scrxWr | scryloWr | scryhiWr | palbankWr | frontcolWr | flipWr => rfl
    | fakeRd | nopWr => rfl
    | _ => exact absurd hwired Bool.false_ne_true
  case sub =>
    cases i with
    | sr1Rd | sr1Wr | sr2Rd | sr2Wr | shrRd | shrWr | nopWr => rfl
    | _ => exact absurd hwired Bool.false_ne_true
  case sound =>
    cases i with
    | sndlatchRd | nmiDis | nmiEn | nopWr => rfl
    | _ => exact absurd hwired Bool.false_ne_true
  case env =>
    cases i with
    | envInport => rfl
    | _ => exact absurd hwired Bool.false_ne_true
  case sched =>
    cases i with
    | mcuIrqTick | screenRefresh => rfl
    | _ => exact absurd hwired Bool.false_ne_true
  case mcu =>
    cases i with
    | mcuPaRd | mcuPaWr | mcuDdraWr | mcuPbRd | mcuPbWr | mcuDdrbWr => rfl
    | _ => exact absurd hwired Bool.false_ne_true

end Sys2Proof.Proofs
end
